-- ==== Sys2Proof/Word.lean ====
section
/-! DEFINITION. The word types of the Modbus frame codec (spec 00_scope.md R9, R14; 30_encoding.md R97, R107).
A bit vector stands only for what the spec numbers by bits: register contents, wire bytes, command words, answer words and
delivered values. Bit 0 is the least significant bit (R14). -/

namespace Sys2Proof

/-- A byte, 8 bits (R9). The streams carry whole bytes (R64). -/
abbrev Byte := BitVec 8

/-- A 16-bit quantity: transaction id, protocol id, length field, start address, quantity (R9). -/
abbrev Half := BitVec 16

/-- A status register as the host reads it: 32 bits (R37, R38). -/
abbrev Word32 := BitVec 32

/-- One word of the value output port (R106, R206). -/
abbrev Val := BitVec 64

/-- A command word CW, bits 95 to 0, presented whole on the command port (R97). -/
abbrev CommandWord := BitVec 96

/-- The answer word AW to one RxRead: AW[9:8] the kind, AW[7:0] the byte (R107). -/
abbrev AnswerWord := BitVec 10

end Sys2Proof
end

