-- ==== Sys2Proof/Config.lean ====
section
/-! DEFINITION. What an implementation fixes (00_scope.md R9, R10) and the model's free values, the values the spec leaves
open: an `opaque` constant has no body, so that no proof can learn which value it is. -/

namespace Sys2Proof

/-- RX_CAP: the capacity of RXBUF in bytes, 6 + 65535 (R10, R30). -/
abbrev Config.rxCap : Nat := 65541

/-- DATA_CAP: the capacity of RSPDATA in bytes (R10, R33). -/
abbrev Config.dataCap : Nat := 255

/-- TX_LEN: the length of every request frame (R10, R92). -/
abbrev Config.txLen : Nat := 12

/-- MAX_REGS: the protocol maximum the source names for function 0x03 (R10). -/
abbrev Config.maxRegs : Nat := 125

/-- MAX_COILS: the protocol maximum the source names for function 0x01 (R10). -/
abbrev Config.maxCoils : Nat := 2000

/-- The content of an 8-bit register that the spec calls unspecified, one value for each draw (R22, R34; log entry 3). -/
opaque Config.freeByte : Nat → Byte

/-- The content of a 16-bit register that the spec calls unspecified, one value for each draw (R22, R34; log entry 3). -/
opaque Config.freeHalf : Nat → Half

/-- The collaborator's answer to a ConnectReq for which the inputs of the run hold no answer: it always answers, and
either answer is allowed (R140; 93_implementation_defined.md U5; log entry 6). -/
opaque Config.connectAnswer : Nat → Bool

end Sys2Proof
end

