-- ==== Sys2Proof/Syntax.lean ====
section
/-! DEFINITION. The instructions: one constructor of `Instr` for each row of spec/opcode_table.json, and the words in
which they reach the block's ports (30_encoding.md R97 to R107). The table has three sorts of rows: the 26 command words
of the command port, the three wire formats of the two streams, and the four answer words of the transport port. -/

namespace Sys2Proof

/-- The closed set of numeric types, in the order of their TYPE codes 0 to 7 (R11, R95). -/
inductive NumType where
  | int16 | uint16 | int32 | uint32 | float32 | int64 | uint64 | float64
deriving DecidableEq, Repr

/-- The operands that BUILD, READC and READH share, the fields of format B other than FC (R99). -/
structure BuildOperands where
  /-- PC, bit 81: the count operand is present. -/
  pc : Bool
  /-- PS, bit 80: the start_register operand is present. -/
  ps : Bool
  /-- UNIT, bits 71:64. -/
  unit : Byte
  /-- TID, bits 63:48. -/
  tid : Half
  /-- START, bits 47:24, one-based; ignored when PS = 0. -/
  start : BitVec 24
  /-- COUNT, bits 23:8; ignored when PC = 0. -/
  count : Half
deriving DecidableEq, Repr

/-- One constructor for each row of spec/opcode_table.json. -/
inductive Instr where
  /-- RESET, R230. -/
  | reset
  /-- BUILD, R130. -/
  | build (fc : Byte) (ops : BuildOperands)
  /-- CONNECT, R140. -/
  | connect
  /-- DISCONNECT, R141. -/
  | disconnect
  /-- SEND, R142. -/
  | send
  /-- RECV, R143. -/
  | recv
  /-- LOADF, R170, with the payload bytes that followed the word (R104). -/
  | loadf (nbytes : BitVec 24) (payload : List Byte)
  /-- DECODE, R171. -/
  | decode
  /-- VALUES.INT16, R200 with R192. -/
  | valuesInt16
  /-- VALUES.UINT16, R200 with R193. -/
  | valuesUint16
  /-- VALUES.INT32, R200 with R194. -/
  | valuesInt32
  /-- VALUES.UINT32, R200 with R195. -/
  | valuesUint32
  /-- VALUES.FLOAT32, R200 with R196. -/
  | valuesFloat32
  /-- VALUES.INT64, R200 with R197. -/
  | valuesInt64
  /-- VALUES.UINT64, R200 with R198. -/
  | valuesUint64
  /-- VALUES.FLOAT64, R200 with R199. -/
  | valuesFloat64
  /-- VALUE.INT16, R201 with R192. -/
  | valueInt16 (index : Half)
  /-- VALUE.UINT16, R201 with R193. -/
  | valueUint16 (index : Half)
  /-- VALUE.INT32, R201 with R194. -/
  | valueInt32 (index : Half)
  /-- VALUE.UINT32, R201 with R195. -/
  | valueUint32 (index : Half)
  /-- VALUE.FLOAT32, R201 with R196. -/
  | valueFloat32 (index : Half)
  /-- VALUE.INT64, R201 with R197. -/
  | valueInt64 (index : Half)
  /-- VALUE.UINT64, R201 with R198. -/
  | valueUint64 (index : Half)
  /-- VALUE.FLOAT64, R201 with R199. -/
  | valueFloat64 (index : Half)
  /-- READC, R220. -/
  | readc (ops : BuildOperands)
  /-- READH, R221. -/
  | readh (ops : BuildOperands)
  /-- FRAME.REQ.READ_COILS, R92: the 12 bytes pushed on the TX stream, function code 0x01. -/
  | frameReqReadCoils (tid : Half) (unit : Byte) (addr qty : Half)
  /-- FRAME.REQ.READ_HOLDING_REGISTERS, R92: the same with function code 0x03. -/
  | frameReqReadHoldingRegisters (tid : Half) (unit : Byte) (addr qty : Half)
  /-- FRAME.RSP, R93: the first 9 bytes of a received frame. -/
  | frameRsp (tid pid len : Half) (unit fc bc : Byte)
  /-- ANSWER.NONE, R149: no answer yet. -/
  | answerNone
  /-- ANSWER.BYTE, R144: one received byte. -/
  | answerByte (b : Byte)
  /-- ANSWER.CLOSED, R147: the peer closed the stream. -/
  | answerClosed
  /-- ANSWER.FAULT, R148: the collaborator reports a fault. -/
  | answerFault
deriving DecidableEq, Repr

/-- What the host presents on the command port: a command word, with the bytes that follow it on the host data-in port
(only LOADF takes any, R97, R104). -/
structure Command where
  cw : CommandWord
  payload : List Byte
deriving DecidableEq, Repr

/-- A word of one of the block's ports, before decoding. The port a word stands on is part of what it means: 96 bits on the
command port are a command word (R97), the same 96 bits on the TX stream are a request frame (R92). -/
inductive PortWord where
  /-- A command word with its payload, on the command port (R97). -/
  | command (c : Command)
  /-- The 12 bytes of a request frame on the TX stream, the first byte most significant (R92). -/
  | request (w : BitVec 96)
  /-- The first 9 bytes of a frame on the RX stream, the first byte most significant (R93). -/
  | response (w : BitVec 72)
  /-- An answer word on the transport port (R107). -/
  | answer (w : AnswerWord)
deriving DecidableEq, Repr

end Sys2Proof
end

