-- ==== Sys2Proof/WellFormed.lean ====
section
/-! DEFINITION. Which terms of `Instr` are instructions. The constructors' widths already exclude every value a field
cannot hold; what is left is the length of LOADF's payload (30_encoding.md R101, R104). -/

namespace Sys2Proof

/-- How many payload bytes a LOADF with this NBYTES takes: all of them when the length is legal, none when it is over RX_CAP,
because the word is then an illegal command and takes no payload byte (R103, R170). -/
def loadfTakes (nbytes : BitVec 24) : Nat :=
  if nbytes.toNat ≤ Config.rxCap then nbytes.toNat else 0

/-- A LOADF carries exactly the payload bytes it takes (R104); every other term is well formed as it stands. -/
def Instr.wf : Instr → Bool
  | .loadf nbytes payload => payload.length == loadfTakes nbytes
  | .reset | .build _ _ | .connect | .disconnect | .send | .recv | .decode
  | .valuesInt16 | .valuesUint16 | .valuesInt32 | .valuesUint32 | .valuesFloat32 | .valuesInt64 | .valuesUint64
  | .valuesFloat64 | .valueInt16 _ | .valueUint16 _ | .valueInt32 _ | .valueUint32 _ | .valueFloat32 _ | .valueInt64 _
  | .valueUint64 _ | .valueFloat64 _ | .readc _ | .readh _ | .frameReqReadCoils _ _ _ _
  | .frameReqReadHoldingRegisters _ _ _ _ | .frameRsp _ _ _ _ _ _ | .answerNone | .answerByte _ | .answerClosed
  | .answerFault => true

end Sys2Proof
end

