-- ==== Sys2Proof/Decode.lean ====
section
/-! DEFINITION. Decoding, total on every word of every port and rejecting by name, and the encoder written from the same
tables (30_encoding.md R92 to R107). Fields are pulled out of the words here and nowhere else. -/

namespace Sys2Proof

/-- Why a word is no instruction. The first two are the sub-codes 0 and 1 of ILLEGAL_COMMAND (R103). -/
inductive Reject where
  /-- The opcode is not in the table of R102: ILLEGAL_COMMAND sub-code 0. -/
  | unassignedOpcode
  /-- A bit that must be 0 is 1: ILLEGAL_COMMAND sub-code 1. -/
  | reservedBit
  /-- A LOADF of legal length is followed by fewer bytes than NBYTES, which R104 excludes. -/
  | payloadMissing
  /-- The 96 bits on the TX stream are not a request frame of R92. -/
  | notARequestFrame
  /-- The answer word has a byte beside a kind that carries none (R107). -/
  | notAnAnswer
deriving DecidableEq, Repr

/-! ### Fields of a command word (R97 to R101) -/

/-- OP, CW[95:88] (R97). -/
def cwOp (cw : CommandWord) : Byte := cw.extractLsb' 88 8

/-- FC, CW[79:72] (R99). -/
def cwFc (cw : CommandWord) : Byte := cw.extractLsb' 72 8

/-- TYPE, CW[82:80] (R100). -/
def cwType (cw : CommandWord) : BitVec 3 := cw.extractLsb' 80 3

/-- INDEX, CW[79:64] (R100). -/
def cwIndex (cw : CommandWord) : Half := cw.extractLsb' 64 16

/-- NBYTES, CW[23:0] (R101). -/
def cwNbytes (cw : CommandWord) : BitVec 24 := cw.extractLsb' 0 24

/-- The operands of format B (R99). -/
def cwBuildOperands (cw : CommandWord) : BuildOperands where
  pc := cw.getLsbD 81
  ps := cw.getLsbD 80
  unit := cw.extractLsb' 64 8
  tid := cw.extractLsb' 48 16
  start := cw.extractLsb' 24 24
  count := cw.extractLsb' 8 16

/-- Format N: CW[87:0] are reserved (R98). -/
def reservedN (cw : CommandWord) : Bool := cw.extractLsb' 0 88 == 0#88

/-- Format B: CW[87:82] and CW[7:0] are reserved (R99). -/
def reservedB (cw : CommandWord) : Bool := cw.extractLsb' 82 6 == 0#6 && cw.extractLsb' 0 8 == 0#8

/-- Format B in READC and READH: FC too must be 0 (R99). -/
def reservedRead (cw : CommandWord) : Bool := reservedB cw && cwFc cw == 0#8

/-- Format V: CW[87:83] and CW[63:0] are reserved (R100). -/
def reservedV (cw : CommandWord) : Bool := cw.extractLsb' 83 5 == 0#5 && cw.extractLsb' 0 64 == 0#64

/-- Format V in VALUES: INDEX too must be 0 (R100). -/
def reservedValues (cw : CommandWord) : Bool := reservedV cw && cwIndex cw == 0#16

/-- Format L: CW[87:24] are reserved (R101). -/
def reservedL (cw : CommandWord) : Bool := cw.extractLsb' 24 64 == 0#64

/-! ### Decoding -/

/-- The form of VALUES that a TYPE code selects (R95, R102). -/
def valuesForm (ty : BitVec 3) : Instr :=
  match ty.toNat with
  | 0 => .valuesInt16
  | 1 => .valuesUint16
  | 2 => .valuesInt32
  | 3 => .valuesUint32
  | 4 => .valuesFloat32
  | 5 => .valuesInt64
  | 6 => .valuesUint64
  | _ => .valuesFloat64

/-- The form of VALUE that a TYPE code selects (R95, R102). -/
def valueForm (ty : BitVec 3) (index : Half) : Instr :=
  match ty.toNat with
  | 0 => .valueInt16 index
  | 1 => .valueUint16 index
  | 2 => .valueInt32 index
  | 3 => .valueUint32 index
  | 4 => .valueFloat32 index
  | 5 => .valueInt64 index
  | 6 => .valueUint64 index
  | _ => .valueFloat64 index

/-- `i` when the reserved bits are 0, ILLEGAL_COMMAND sub-code 1 otherwise (R103). -/
def ifReserved (ok : Bool) (i : Instr) : Except Reject Instr := if ok then .ok i else .error .reservedBit

/-- LOADF takes the first NBYTES bytes of what follows on the data-in port, or none of them when NBYTES is over RX_CAP
(R103, R104). -/
def decodeLoadf (nbytes : BitVec 24) (payload : List Byte) : Except Reject Instr :=
  if payload.length < loadfTakes nbytes then .error .payloadMissing
  else .ok (.loadf nbytes (payload.take (loadfTakes nbytes)))

/-- The opcode map (R102), with the checks of R103 in the order of R253: the opcode first, then the reserved bits. -/
def decodeCommand (c : Command) : Except Reject Instr :=
  match (cwOp c.cw).toNat with
  | 0x01 => ifReserved (reservedN c.cw) .reset
  | 0x08 => ifReserved (reservedB c.cw) (.build (cwFc c.cw) (cwBuildOperands c.cw))
  | 0x10 => ifReserved (reservedN c.cw) .connect
  | 0x11 => ifReserved (reservedN c.cw) .disconnect
  | 0x12 => ifReserved (reservedN c.cw) .send
  | 0x13 => ifReserved (reservedN c.cw) .recv
  | 0x20 => if reservedL c.cw then decodeLoadf (cwNbytes c.cw) c.payload else .error .reservedBit
  | 0x21 => ifReserved (reservedN c.cw) .decode
  | 0x28 => ifReserved (reservedValues c.cw) (valuesForm (cwType c.cw))
  | 0x29 => ifReserved (reservedV c.cw) (valueForm (cwType c.cw) (cwIndex c.cw))
  | 0x30 => ifReserved (reservedRead c.cw) (.readc (cwBuildOperands c.cw))
  | 0x31 => ifReserved (reservedRead c.cw) (.readh (cwBuildOperands c.cw))
  | _ => .error .unassignedOpcode

/-- A request frame as 96 bits, its first byte most significant (R92): protocol_id 0 and length 6 in bytes 2 to 5, and the
function code in byte 7. The block never emits any other frame. -/
def decodeRequest (w : BitVec 96) : Except Reject Instr :=
  if w.extractLsb' 64 16 = 0x0000#16 ∧ w.extractLsb' 48 16 = 0x0006#16 then
    match (w.extractLsb' 32 8).toNat with
    | 0x01 => .ok (.frameReqReadCoils (w.extractLsb' 80 16) (w.extractLsb' 40 8) (w.extractLsb' 16 16) (w.extractLsb' 0 16))
    | 0x03 => .ok (.frameReqReadHoldingRegisters (w.extractLsb' 80 16) (w.extractLsb' 40 8) (w.extractLsb' 16 16)
        (w.extractLsb' 0 16))
    | _ => .error .notARequestFrame
  else .error .notARequestFrame

/-- The first 9 bytes of a received frame as 72 bits, the first byte most significant (R93): every pattern is one. -/
def decodeResponse (w : BitVec 72) : Instr :=
  .frameRsp (w.extractLsb' 56 16) (w.extractLsb' 40 16) (w.extractLsb' 24 16) (w.extractLsb' 16 8) (w.extractLsb' 8 8)
    (w.extractLsb' 0 8)

/-- An answer word: AW[9:8] the kind, AW[7:0] the byte of kind 1 and 0 for the other kinds (R107). -/
def decodeAnswer (w : AnswerWord) : Except Reject Instr :=
  let b : Byte := w.extractLsb' 0 8
  match (w.extractLsb' 8 2).toNat with
  | 0 => if b = 0#8 then .ok .answerNone else .error .notAnAnswer
  | 1 => .ok (.answerByte b)
  | 2 => if b = 0#8 then .ok .answerClosed else .error .notAnAnswer
  | _ => if b = 0#8 then .ok .answerFault else .error .notAnAnswer

/-- The instruction a port word stands for. -/
def decode : PortWord → Except Reject Instr
  | .command c => decodeCommand c
  | .request w => decodeRequest w
  | .response w => .ok (decodeResponse w)
  | .answer w => decodeAnswer w

/-- A number whose bytes are given most significant first, as `n` bytes' worth of bits. -/
def wordOfBytes (n : Nat) (bytes : List Byte) : BitVec n :=
  BitVec.ofNat n (bytes.foldl (fun acc b => acc * 256 + b.toNat) 0)

/-- A command as bytes: the 12 bytes of the command word, CW[95:88] first (R97), then the payload (R104). Fewer than 12 bytes
are no command word. -/
def commandOfBytes (bytes : List Byte) : Option Command :=
  if bytes.length < 12 then none else some ⟨wordOfBytes 96 (bytes.take 12), bytes.drop 12⟩

/-- The instruction that a word of the table's numbering stands for; see the host's interface. The row's width says which
port the word belongs to: 96 bits are a command word, or a request frame where they are no legal command; 72 bits the start of a
response frame; 16 (or the table's own 10) an answer word. Payload bytes are zeros. -/
def portWordOfTable (nbits w : Nat) : Option PortWord :=
  if 2 ^ nbits ≤ w then none
  else match nbits with
  | 96 =>
    let c : Command := ⟨BitVec.ofNat 96 w, List.replicate (loadfTakes (cwNbytes (BitVec.ofNat 96 w))) 0#8⟩
    match decodeCommand c, decodeRequest (BitVec.ofNat 96 w) with
    | .error _, .ok _ => some (.request (BitVec.ofNat 96 w))
    | _, _ => some (.command c)
  | 72 => some (.response (BitVec.ofNat 72 w))
  | 16 => if w < 1024 then some (.answer (BitVec.ofNat 10 w)) else none
  | 10 => some (.answer (BitVec.ofNat 10 w))
  | _ => none

/-- The instruction the decoder reads from a table word, none where it refuses. -/
def decodeTableWord (nbits w : Nat) : Option Instr :=
  match portWordOfTable nbits w with
  | none => none
  | some p => (decode p).toOption

/-! ### Encoding -/

/-- A format N word (R98). -/
def encodeN (op : Byte) : CommandWord := op ++ 0#88

/-- A format B word (R99). -/
def encodeB (op fc : Byte) (o : BuildOperands) : CommandWord :=
  op ++ 0#6 ++ BitVec.ofBool o.pc ++ BitVec.ofBool o.ps ++ fc ++ o.unit ++ o.tid ++ o.start ++ o.count ++ 0#8

/-- A format V word (R100). -/
def encodeV (op : Byte) (ty : BitVec 3) (index : Half) : CommandWord := op ++ 0#5 ++ ty ++ index ++ 0#64

/-- A format L word (R101). -/
def encodeL (op : Byte) (nbytes : BitVec 24) : CommandWord := op ++ 0#64 ++ nbytes

/-- The 12 bytes of a request frame as one 96-bit pattern, the first byte leftmost (R92). -/
def encodeRequest (fc : Byte) (tid : Half) (unit : Byte) (addr qty : Half) : BitVec 96 :=
  tid ++ 0x0000#16 ++ 0x0006#16 ++ unit ++ fc ++ addr ++ qty

/-- The 9-byte start of a response frame as one 72-bit pattern (R93). -/
def encodeResponse (tid pid len : Half) (unit fc bc : Byte) : BitVec 72 := tid ++ pid ++ len ++ unit ++ fc ++ bc

/-- An answer word (R107). -/
def encodeAnswer (kind : BitVec 2) (b : Byte) : AnswerWord := kind ++ b

/-- The word of the port an instruction arrives on, written from the tables of R92, R93, R98 to R102 and R107. -/
def encode : Instr → PortWord
  | .reset => .command ⟨encodeN 0x01#8, []⟩
  | .build fc o => .command ⟨encodeB 0x08#8 fc o, []⟩
  | .connect => .command ⟨encodeN 0x10#8, []⟩
  | .disconnect => .command ⟨encodeN 0x11#8, []⟩
  | .send => .command ⟨encodeN 0x12#8, []⟩
  | .recv => .command ⟨encodeN 0x13#8, []⟩
  | .loadf nbytes payload => .command ⟨encodeL 0x20#8 nbytes, payload⟩
  | .decode => .command ⟨encodeN 0x21#8, []⟩
  | .valuesInt16 => .command ⟨encodeV 0x28#8 0#3 0#16, []⟩
  | .valuesUint16 => .command ⟨encodeV 0x28#8 1#3 0#16, []⟩
  | .valuesInt32 => .command ⟨encodeV 0x28#8 2#3 0#16, []⟩
  | .valuesUint32 => .command ⟨encodeV 0x28#8 3#3 0#16, []⟩
  | .valuesFloat32 => .command ⟨encodeV 0x28#8 4#3 0#16, []⟩
  | .valuesInt64 => .command ⟨encodeV 0x28#8 5#3 0#16, []⟩
  | .valuesUint64 => .command ⟨encodeV 0x28#8 6#3 0#16, []⟩
  | .valuesFloat64 => .command ⟨encodeV 0x28#8 7#3 0#16, []⟩
  | .valueInt16 index => .command ⟨encodeV 0x29#8 0#3 index, []⟩
  | .valueUint16 index => .command ⟨encodeV 0x29#8 1#3 index, []⟩
  | .valueInt32 index => .command ⟨encodeV 0x29#8 2#3 index, []⟩
  | .valueUint32 index => .command ⟨encodeV 0x29#8 3#3 index, []⟩
  | .valueFloat32 index => .command ⟨encodeV 0x29#8 4#3 index, []⟩
  | .valueInt64 index => .command ⟨encodeV 0x29#8 5#3 index, []⟩
  | .valueUint64 index => .command ⟨encodeV 0x29#8 6#3 index, []⟩
  | .valueFloat64 index => .command ⟨encodeV 0x29#8 7#3 index, []⟩
  | .readc o => .command ⟨encodeB 0x30#8 0#8 o, []⟩
  | .readh o => .command ⟨encodeB 0x31#8 0#8 o, []⟩
  | .frameReqReadCoils tid unit addr qty => .request (encodeRequest 0x01#8 tid unit addr qty)
  | .frameReqReadHoldingRegisters tid unit addr qty => .request (encodeRequest 0x03#8 tid unit addr qty)
  | .frameRsp tid pid len unit fc bc => .response (encodeResponse tid pid len unit fc bc)
  | .answerNone => .answer (encodeAnswer 0#2 0#8)
  | .answerByte b => .answer (encodeAnswer 1#2 b)
  | .answerClosed => .answer (encodeAnswer 2#2 0#8)
  | .answerFault => .answer (encodeAnswer 3#2 0#8)

end Sys2Proof
end

