-- ==== Sys2Proof/Machine/State.lean ====
section
/-! DEFINITION. The state of the block (10_state.md R20 to R43), the ports and the environment that its rules read and write
(R42; 00_scope.md R12, R17), the reasons a step can stop, and the state after reset. -/

namespace Sys2Proof.Machine

/-- PEND, the command that is pending over several steps (R27). Code 3 is reserved and never written. -/
inductive Pend where
  | none | recv | read
deriving DecidableEq, Repr

/-- RXSTATE, the deframer's phase (R28). Code 3 is reserved and never written. -/
inductive RxState where
  | idle | hdr | body
deriving DecidableEq, Repr

/-- The kinds of completion (60_exceptions.md R240). `connectionFailure` and `decodeError` are never the code of a completion
(R241, R248); they have a number because ERRLOG counts the first and the source names the second. -/
inductive Kind where
  | ok | connectionFailure | streamClosed | malformedFrame | structuralMismatch | decodeRange | validation | notConnected
  | decodeError | ioError | illegalCommand | precondition
deriving DecidableEq, Repr

/-- A completion record on the result port: code, sub-code, result (30_encoding.md R105). -/
structure Completion where
  kind : Kind
  sub : BitVec 4
  res : Word32
deriving DecidableEq, Repr

/-- What the collaborator answers to one RxRead (R107): a byte, `Closed` or `Fault`. "No answer yet" is no answer. -/
inductive Answer where
  | byte (b : Byte) | closed | fault
deriving DecidableEq, Repr

/-- What the block asks of the transport collaborator (R17): ConnectReq, TxPush of some bytes, CloseReq. -/
inductive TransportReq where
  | connect | push (bytes : List Byte) | close
deriving DecidableEq, Repr

/-- What the host reads through the register read port (46_system.md R231): a status register or a window byte. -/
inductive ReadValue where
  | register (v : Word32) | window (b : Byte)
deriving DecidableEq, Repr

/-- One move of one of the agents outside the codec, or one chance for a port to take what waits on it (R12; log entry 1). -/
inductive Event where
  /-- The host presents a command, or the collaborator or the stream a word of its port. -/
  | arrive (w : PortWord)
  /-- The command port looks at the words that wait on it (R160). -/
  | host
  /-- The collaborator answers the outstanding RxRead from what waits in its queue (R42). -/
  | collaborator
  /-- The hard reset input `rst` (R280). -/
  | rst
  /-- The host reads a status register (R231). -/
  | readRegister (number : Nat)
  /-- The host reads one byte of a window (R231). -/
  | readWindow (window offset : Nat)
deriving DecidableEq, Repr

/-- The contents of one byte buffer, the bytes that hold a specified value: (offset, byte) with the offsets strictly rising
(log entry 2). An offset that is not listed holds no specified value. -/
abbrev Memory := List Host.Cell

/-- Why a step stops with a fault. No state that is reachable from reset raises one (`Safety.Inv`); both are safe: the model
stops where the spec describes no machine. -/
inductive Fault where
  /-- Raised by LOADF and by the deframer for a write outside RXBUF's 65541 bytes (R30): the address does not exist. Safe. -/
  | outsideBuffer
  /-- Raised by the deframer, DECODE, VALUES and VALUE for a byte of a buffer that no command has written (R30, R33): in
  those states the valid flags and the buffers contradict each other. Safe. -/
  | unwrittenByte
deriving DecidableEq, Repr

/-- Why a step is refused. All are safe: nothing is claimed of the hardware there. -/
inductive Refusal where
  /-- Raised by `exec` for an instruction without a meaning; no instruction is left without one. Safe. -/
  | notModelled (mnemonic : String)
  /-- Raised by the command port when a LOADF of legal length is presented with fewer than NBYTES payload bytes, which is not
  a command of the interface (R104). Safe. -/
  | payloadMissing
  /-- Raised by the ports when a word is not one of its port's words: an answer word with a byte beside a kind that carries none
  (R107), or 96 bits on the TX stream that are no request frame (R92). Safe. -/
  | notAPortWord
  /-- Raised by the register read port for a status register that does not exist or whose value is unspecified, where R38 and R231
  tell a model to refuse. Safe. -/
  | unspecifiedRegister (number : Nat)
  /-- Raised by the register read port for a window byte outside the meaningful range, where R39 and R231 tell a model to
  refuse. Safe. -/
  | unspecifiedWindow (window offset : Nat)
deriving DecidableEq, Repr

/-- The state. The first groups are the block's own and follow R20; `free`, `enforceMaxima` and the port groups are the
model's (log entries 1, 3, 4). TXBUF is a view of the Request group and no field (R23). -/
structure State where
  -- Request group (R21, R22)
  /-- REQ_UNIT. -/
  reqUnit : Byte
  /-- REQ_TID. -/
  reqTid : Half
  /-- REQ_FC. -/
  reqFc : Byte
  /-- REQ_ADDR, zero-based. -/
  reqAddr : Half
  /-- REQ_QTY. -/
  reqQty : Half
  /-- REQVALID. -/
  reqValid : Bool
  -- Session group (R24 to R26)
  /-- LINK: Connected. -/
  link : Bool
  /-- CONNFAIL: the last connect failed. -/
  connFail : Bool
  /-- INFLIGHT: a request has been sent and its response is not drained. -/
  inFlight : Bool
  /-- SEQERR, sticky: a request was sent while another was in flight. -/
  seqErr : Bool
  -- Sequencer group (R27 to R29)
  /-- PEND. -/
  pend : Pend
  /-- RXSTATE. -/
  rxState : RxState
  /-- RXNEED. -/
  rxNeed : Half
  -- Frame buffer group (R30, R31)
  /-- RXBUF. -/
  rxBuf : Memory
  /-- RXLEN. -/
  rxLen : BitVec 17
  /-- RXVALID. -/
  rxValid : Bool
  -- Response group (R32 to R34)
  /-- RSP_TID. -/
  rspTid : Half
  /-- RSP_PID. -/
  rspPid : Half
  /-- RSP_LEN. -/
  rspLen : Half
  /-- RSP_UNIT. -/
  rspUnit : Byte
  /-- RSP_FC. -/
  rspFc : Byte
  /-- RSP_BC. -/
  rspBc : Byte
  /-- RSPDATA. -/
  rspData : Memory
  /-- RSPVALID. -/
  rspValid : Bool
  /-- TRAIL. -/
  trail : Bool
  -- Error group (R35, R36)
  /-- ERR: the sub-code in bits 7:4, the code in bits 3:0. -/
  err : Byte
  /-- ERRLOG, one sticky bit for each code. -/
  errLog : BitVec 12
  -- The model's own fields
  /-- How many free values have been drawn (log entry 3). -/
  free : Nat
  /-- The parameter ENFORCE_MAXIMA (R10; log entry 4). -/
  enforceMaxima : Bool
  -- The ports' inputs: what the other agents do next, and what waits
  /-- The moves of the host and the collaborator, and the hard resets, in the order in which they fall. -/
  inbox : List Event
  /-- The words that stand on the command port and have not been taken (R160). -/
  waiting : List Command
  /-- The answers that wait in the collaborator for an RxRead (R42). -/
  rxQueue : List Answer
  /-- The collaborator's closed indication: the peer has closed the stream of the present connection (R42, R75; log entry 23). -/
  peerClosed : Bool
  /-- The collaborator's answers to the coming ConnectReqs (R140). -/
  connAnswers : List Bool
  -- The ports' outputs, all of them from the start, the oldest first
  /-- The requests to the transport collaborator; their pushes are the TX stream (R60). -/
  transport : List TransportReq
  /-- The result port (R105). -/
  results : List Completion
  /-- The value output port (R106). -/
  values : List Val
  /-- The register read port (R231). -/
  readOut : List ReadValue
deriving DecidableEq, Repr

/-- The state after reset (R43). The registers that R43 leaves unspecified hold 0 (log entry 5), the buffers hold no specified
byte, the parameter has its default (R10), and no agent has moved. -/
def State.reset : State where
  reqUnit := 0
  reqTid := 0
  reqFc := 0
  reqAddr := 0
  reqQty := 0
  reqValid := false
  link := false
  connFail := false
  inFlight := false
  seqErr := false
  pend := .none
  rxState := .idle
  rxNeed := 0
  rxBuf := []
  rxLen := 0
  rxValid := false
  rspTid := 0
  rspPid := 0
  rspLen := 0
  rspUnit := 0
  rspFc := 0
  rspBc := 0
  rspData := []
  rspValid := false
  trail := false
  err := 0
  errLog := 0
  free := 0
  enforceMaxima := false
  inbox := []
  waiting := []
  rxQueue := []
  peerClosed := false
  connAnswers := []
  transport := []
  results := []
  values := []
  readOut := []

/-- The three outcomes of one step of this machine. -/
abbrev Result := Host.Outcome State Fault Refusal

end Sys2Proof.Machine
end

