-- ==== Sys2Proof/Machine/Memory.lean ====
section
/-! DEFINITION. The named operations over a byte buffer: MemRead and MemWrite of 00_scope.md R17, over the canonical form of
`Memory` (log entry 2). -/

namespace Sys2Proof.Machine

/-- The canonical form: offsets strictly rising. An unlisted offset holds no value, so no entry can equal what it reads as. -/
abbrev Memory.wf (m : Memory) : Prop := (m.map Prod.fst).Pairwise (· < ·)

/-- The byte at an offset, none where no specified byte is held. -/
def Memory.read? : Memory → Nat → Option Byte
  | [], _ => none
  | (k, b) :: m, a => if a = k then some b else Memory.read? m a

/-- MemRead(space, off, n): the bytes at offsets off to off + n - 1, in order; none if one of them holds no value. -/
def Memory.readBytes (m : Memory) (off : Nat) : Nat → Option (List Byte)
  | 0 => some []
  | n + 1 =>
    match m.read? off, Memory.readBytes m (off + 1) n with
    | some b, some bs => some (b :: bs)
    | _, _ => none

/-- Writes one byte. -/
def Memory.write : Memory → Nat → Byte → Memory
  | [], a, b => [(a, b)]
  | (k, c) :: m, a, b =>
    if a < k then (a, b) :: (k, c) :: m
    else if a = k then (a, b) :: m
    else (k, c) :: Memory.write m a b

/-- MemWrite(space, off, n, v): writes the bytes from offset off on, in order. -/
def Memory.writeBytes (m : Memory) (off : Nat) : List Byte → Memory
  | [] => m
  | b :: bs => Memory.writeBytes (m.write off b) (off + 1) bs

/-- MemWrite into a buffer of `cap` bytes; none where an offset does not exist. -/
def writeBuffer (cap : Nat) (m : Memory) (off : Nat) (bytes : List Byte) : Option Memory :=
  if off + bytes.length ≤ cap then some (m.writeBytes off bytes) else none

end Sys2Proof.Machine
end

