-- ==== Sys2Proof/Machine/Operands.lean ====
section
/-! DEFINITION. How derived quantities are formed from fields and bytes: 30_encoding.md R96, the byte order of 20_memory.md R62,
the request frame of R92, the checks of DECODE (43_response_decoder.md R171 to R177), and the VAL words of
44_register_value_codec.md R190 to R206. -/

namespace Sys2Proof.Machine

/-! ### Byte order (R15, R62) -/

/-- B[i], for an offset inside the sequence. -/
def byteAt (bytes : List Byte) (i : Nat) : Byte := bytes.getD i 0

/-- be16(B, o) = B[o] * 256 + B[o+1] (R15). -/
def be16 (bytes : List Byte) (o : Nat) : Half := byteAt bytes o ++ byteAt bytes (o + 1)

/-- beN of a whole sequence: the first byte most significant (R15). -/
def beNat (bytes : List Byte) : Nat := bytes.foldl (fun acc b => acc * 256 + b.toNat) 0

/-- bytes_be16(v) = [v[15:8], v[7:0]] (R15). -/
def bytesBe16 (v : Half) : List Byte := [v.extractLsb' 8 8, v.extractLsb' 0 8]

/-! ### Request frames (R92) -/

/-- frame(tid, unit, fc, addr, qty) (R92). -/
def requestFrame (tid : Half) (unit fc : Byte) (addr qty : Half) : List Byte :=
  bytesBe16 tid ++ bytesBe16 0x0000#16 ++ bytesBe16 0x0006#16 ++ [unit, fc] ++ bytesBe16 addr ++ bytesBe16 qty

/-- The first nine bytes of a received frame, in wire order (R93). -/
def responseStart (tid pid len : Half) (unit fc bc : Byte) : List Byte :=
  bytesBe16 tid ++ bytesBe16 pid ++ bytesBe16 len ++ [unit, fc, bc]

/-- start_address = START - 1, for 1 ≤ START ≤ 65536 (R96). -/
def startAddress (start : BitVec 24) : Half := BitVec.ofNat 16 (start.toNat - 1)

/-- The two supported function codes (R11, R94). -/
def supportedFc (fc : Byte) : Bool := fc == 0x01#8 || fc == 0x03#8

/-- A count above the protocol maximum of its function code (R10, R130). -/
def overMaxima (fc : Byte) (count : Half) : Bool :=
  (fc == 0x03#8 && decide (Config.maxRegs < count.toNat)) || (fc == 0x01#8 && decide (Config.maxCoils < count.toNat))

/-- The first check of BUILD that fails, as VALIDATION's sub-code; none when the operands are valid (R130, R132). -/
def buildFailure (enforceMaxima : Bool) (fc : Byte) (o : BuildOperands) : Option (BitVec 4) :=
  if o.ps = false then some 0
  else if o.pc = false then some 1
  else if supportedFc fc = false then some 4
  else if o.start.toNat < 1 ∨ 65536 < o.start.toNat then some 2
  else if o.count = 0 then some 3
  else if enforceMaxima && overMaxima fc o.count then some 5
  else none

/-! ### Received frames -/

/-- Remaining PDU bytes: max(L - 1, 0) (R96, R151). -/
def remainingBytes (len : Half) : Nat := len.toNat - 1

/-- Expected frame size: L + 6, without wrap-around (R96, R174). -/
def expectedFrameSize (len : Half) : Nat := len.toNat + 6

/-- The source's Response value (R32, R33), with TRAIL (R34). -/
structure Response where
  tid : Half
  pid : Half
  len : Half
  unit : Byte
  fc : Byte
  bc : Byte
  data : List Byte
  trail : Bool
deriving DecidableEq, Repr

/-- DECODE's checks on a frame and the fields it extracts, in the order of R171: frame too short, PDU too short, length field
against received size, byte_count against the clipped data slice. An error is the failure's kind and sub-code. -/
def parseFrame (f : List Byte) : Except (Kind × BitVec 4) Response :=
  if f.length < 9 then .error (.malformedFrame, 0)
  else
    let pdu := f.drop 7
    if pdu.length < 2 then .error (.malformedFrame, 1)
    else if f.length ≠ expectedFrameSize (be16 f 4) then .error (.structuralMismatch, 0)
    else
      let bc := byteAt pdu 1
      let data := (pdu.drop 2).take bc.toNat
      if data.length ≠ bc.toNat then .error (.structuralMismatch, 1)
      else .ok {
        tid := be16 f 0
        pid := be16 f 2
        len := be16 f 4
        unit := byteAt f 6
        fc := byteAt pdu 0
        bc := bc
        data := data
        trail := decide (bc.toNat < f.length - 9) }

/-! ### Values -/

/-- w, the byte width of a type (R95, R190). -/
def typeWidth : NumType → Nat
  | .int16 | .uint16 => 2
  | .int32 | .uint32 | .float32 => 4
  | .int64 | .uint64 | .float64 => 8

/-- n = floor(RSP_BC / w) (R191). -/
def chunkCount (t : NumType) (bc : Byte) : Nat := bc.toNat / typeWidth t

/-- The VAL word of a chunk with raw value r (R192 to R199, R206). -/
def valWord (t : NumType) (r : Nat) : Val :=
  match t with
  | .int16 => (BitVec.ofNat 16 r).signExtend 64
  | .uint16 => (BitVec.ofNat 16 r).setWidth 64
  | .int32 => (BitVec.ofNat 32 r).signExtend 64
  | .uint32 => (BitVec.ofNat 32 r).setWidth 64
  | .float32 => (BitVec.ofNat 32 r).setWidth 64
  | .int64 => BitVec.ofNat 64 r
  | .uint64 => BitVec.ofNat 64 r
  | .float64 => BitVec.ofNat 64 r

/-- chunk i of some data: w consecutive bytes from offset i * w (R191). -/
def chunkOf (t : NumType) (data : List Byte) (i : Nat) : List Byte :=
  (data.drop (i * typeWidth t)).take (typeWidth t)

/-- The n VAL words of some data, in index order (R200, R207). -/
def valWords (t : NumType) (data : List Byte) (n : Nat) : List Val :=
  (List.range n).map fun i => valWord t (beNat (chunkOf t data i))

end Sys2Proof.Machine
end

