-- ==== Sys2Proof/Machine/Flags.lean ====
section
/-! DEFINITION. The codes, flags and status words: 60_exceptions.md R240, R262; 10_state.md R23, R26, R35 to R39; and the register
read port's views of the state (46_system.md R231). -/

namespace Sys2Proof.Machine

/-- The completion code of a kind (R240). -/
def kindCode : Kind → BitVec 4
  | .ok => 0
  | .connectionFailure => 1
  | .streamClosed => 2
  | .malformedFrame => 3
  | .structuralMismatch => 4
  | .decodeRange => 5
  | .validation => 6
  | .notConnected => 7
  | .decodeError => 8
  | .ioError => 9
  | .illegalCommand => 10
  | .precondition => 11

/-- ERR: the sub-code in bits 7:4, the code in bits 3:0 (R35, R262). -/
def errWord (k : Kind) (sub : BitVec 4) : Byte := sub ++ kindCode k

/-- The bit of ERRLOG that a completion with this kind sets: bit `code`, none for a success (R36, R262). -/
def stickyBit : Kind → BitVec 12
  | .ok => 0
  | k => BitVec.twoPow 12 (kindCode k).toNat

/-- SEQERR after a successful SEND: sticky, set when a request was in flight already (R26). -/
def seqErrAfterSend (s : State) : Bool := s.seqErr || s.inFlight

/-- The code of PEND (R27). -/
def pendCode : Pend → BitVec 2
  | .none => 0
  | .recv => 1
  | .read => 2

/-- The code of RXSTATE (R28). -/
def rxStateCode : RxState → BitVec 2
  | .idle => 0
  | .hdr => 1
  | .body => 2

/-- SR0, STATUS (R37), from bit 31 down. -/
def statusWord (s : State) : Word32 :=
  0#20 ++ BitVec.ofBool s.trail ++ BitVec.ofBool s.connFail ++ BitVec.ofBool s.seqErr ++ BitVec.ofBool s.inFlight
    ++ pendCode s.pend ++ rxStateCode s.rxState
    ++ BitVec.ofBool s.rspValid ++ BitVec.ofBool s.rxValid ++ BitVec.ofBool s.reqValid ++ BitVec.ofBool s.link

/-- TXBUF, the wire encoding of the Request registers (R23). -/
def txbuf (s : State) : List Byte := requestFrame s.reqTid s.reqUnit s.reqFc s.reqAddr s.reqQty

/-- The TX stream: the bytes of all pushes, in order (R60, R75). -/
def txStream (s : State) : List Byte :=
  s.transport.flatMap fun r => match r with
    | .push bytes => bytes
    | .connect | .close => []

/-- A status register by number (R37, R38); none where the value is unspecified or the register does not exist, which R231
tells a model to refuse. -/
def readStatus (s : State) (number : Nat) : Option Word32 :=
  match number with
  | 0 => some (statusWord s)
  | 1 => some (s.err.setWidth 32)
  | 2 => some (s.errLog.setWidth 32)
  | 3 => if s.reqValid then some (s.reqTid ++ s.reqFc ++ s.reqUnit) else none
  | 4 => if s.reqValid then some (s.reqAddr ++ s.reqQty) else none
  | 5 => some (s.rxLen.setWidth 32)
  | 6 => some (s.rxNeed.setWidth 32)
  | 7 => if s.rspValid then some (s.rspTid ++ s.rspPid) else none
  | 8 => if s.rspValid then some (s.rspLen ++ s.rspUnit ++ s.rspFc) else none
  | 9 => if s.rspValid then some (s.rspBc.setWidth 32) else none
  | _ => none

/-- A window byte by window number and offset (R39); none outside the meaningful range (R231). -/
def readWindowByte (s : State) (window offset : Nat) : Option Byte :=
  match window with
  | 0 => if s.reqValid then (txbuf s)[offset]? else none
  | 1 => if offset < s.rxLen.toNat then s.rxBuf.read? offset else none
  | 2 => if s.rspValid = true ∧ offset < s.rspBc.toNat then s.rspData.read? offset else none
  | _ => none

end Sys2Proof.Machine
end

