-- ==== Sys2Proof/Machine/Ops.lean ====
section
/-! DEFINITION. The shared operations over the state: the end of a command and its failure form, which is the block's form of
taking an exception (60_exceptions.md R260 to R262); the requests to the transport collaborator (00_scope.md R17); and the updates
of a register group that more than one command makes. There is no return from a failure: the next command word is taken like any
other (R263). -/

namespace Sys2Proof.Machine

/-! ### Completion -/

/-- complete(code, sub, res): writes ERR, sets the sticky bit of a failure, sets PEND to NONE and delivers the record (R262). -/
def complete (k : Kind) (sub : BitVec 4) (res : Word32) (s : State) : State :=
  { s with
    err := errWord k sub
    errLog := s.errLog ||| stickyBit k
    pend := .none
    results := s.results ++ [⟨k, sub, res⟩] }

/-- raise KIND(sub): a failure completion, with result 0 (R17, R105, R260). -/
def raiseFailure (k : Kind) (sub : BitVec 4) (s : State) : State := complete k sub 0 s

/-- The body of a command that is held while a receive is pending: the port does not take its word and nothing changes (R160). -/
def whenFree (s : State) (body : State → Result) : Result :=
  if s.pend = .none then body s else .next s

/-- What follows a step that answers a next state; a fault or a refusal stands. -/
def andThen (r : Result) (f : State → Result) : Result :=
  match r with
  | .next t => f t
  | .fault e => .fault e
  | .refused e => .refused e

/-! ### Requests to the collaborator -/

/-- TxPush(B): one "send all bytes" (R17, R68). -/
def txPush (bytes : List Byte) (s : State) : State := { s with transport := s.transport ++ [.push bytes] }

/-- What the collaborator holds of a stream that is over is lost, and the next stream is fresh: nothing waits and the peer has not
closed it (R140, R141). -/
def freshStream (s : State) : State := { s with rxQueue := [], peerClosed := false }

/-- CloseReq(): the collaborator closes the connection, and the bytes in its receive queue are lost (R17, R141). -/
def closeReq (s : State) : State := freshStream { s with transport := s.transport ++ [.close] }

/-- The collaborator's answer to the next ConnectReq: the next one of the inputs, a free value when they hold none (R140; log entry
6). -/
def connectReply (s : State) : Bool :=
  match s.connAnswers with
  | a :: _ => a
  | [] => Config.connectAnswer s.free

/-- ConnectReq(): the request goes out and its answer is used up (R17, R140). -/
def connectReq (s : State) : State :=
  match s.connAnswers with
  | _ :: as => { s with transport := s.transport ++ [.connect], connAnswers := as }
  | [] => { s with transport := s.transport ++ [.connect], free := s.free + 1 }

/-! ### Register groups -/

/-- The construction part of BUILD: the Request registers, and REQVALID = 1 (R130). -/
def setRequest (fc : Byte) (o : BuildOperands) (s : State) : State :=
  { s with
    reqUnit := o.unit
    reqTid := o.tid
    reqFc := fc
    reqAddr := startAddress o.start
    reqQty := o.count
    reqValid := true }

/-- A build attempt that failed: REQVALID = 0, and the Request registers are unspecified (R22, R130; log entry 3). -/
def invalidateRequest (s : State) : State :=
  { s with
    reqUnit := Config.freeByte s.free
    reqTid := Config.freeHalf (s.free + 1)
    reqFc := Config.freeByte (s.free + 2)
    reqAddr := Config.freeHalf (s.free + 3)
    reqQty := Config.freeHalf (s.free + 4)
    reqValid := false
    free := s.free + 5 }

/-- The transmission of a valid Request on a Connected session: all of TXBUF goes out in one push, SEQERR records a request that was
in flight already, INFLIGHT is set (R142). -/
def transmitRequest (s : State) : State :=
  { txPush (txbuf s) s with seqErr := seqErrAfterSend s, inFlight := true }

/-- Arming the deframer for a pending command: the old frame is given up and 7 header bytes are needed (R143). -/
def armReceive (p : Pend) (s : State) : State :=
  { s with rxValid := false, rxLen := 0, rxBuf := [], rxState := .hdr, rxNeed := 7, pend := p }

/-- The end of a receive that is no frame: RXSTATE = IDLE, RXNEED = 0; RXLEN and the bytes collected stay (R147, R148, R161). -/
def stopReceive (s : State) : State := { s with rxState := .idle, rxNeed := 0 }

/-- The Response group of a DECODE that succeeded (R171). -/
def setResponse (r : Response) (s : State) : State :=
  { s with
    rspTid := r.tid
    rspPid := r.pid
    rspLen := r.len
    rspUnit := r.unit
    rspFc := r.fc
    rspBc := r.bc
    rspData := Memory.writeBytes [] 0 r.data
    trail := r.trail
    rspValid := true }

/-- A DECODE that failed after its precondition: RSPVALID = 0, TRAIL = 0, and the Response registers and RSPDATA are unspecified
(R34, R171; log entries 2 and 3). -/
def invalidateResponse (s : State) : State :=
  { s with
    rspTid := Config.freeHalf s.free
    rspPid := Config.freeHalf (s.free + 1)
    rspLen := Config.freeHalf (s.free + 2)
    rspUnit := Config.freeByte (s.free + 3)
    rspFc := Config.freeByte (s.free + 4)
    rspBc := Config.freeByte (s.free + 5)
    rspData := []
    trail := false
    rspValid := false
    free := s.free + 6 }

/-- Every piece of the block's state at its reset value, and CloseReq when the session was Connected (R230, R280). The parameter, the
inputs that wait on the ports and the outputs already given are not the block's state. -/
def resetBlock (s : State) : State :=
  let c := if s.link then closeReq s else s
  { State.reset with
    free := c.free
    enforceMaxima := c.enforceMaxima
    inbox := c.inbox
    waiting := c.waiting
    rxQueue := c.rxQueue
    peerClosed := c.peerClosed
    connAnswers := c.connAnswers
    transport := c.transport
    results := c.results
    values := c.values
    readOut := c.readOut }

end Sys2Proof.Machine
end

