-- ==== Sys2Proof/Machine/Builder.lean ====
section
/-! DEFINITION. The request builder family: BUILD (41_request_builder.md R130 to R134). -/

namespace Sys2Proof.Machine

/-- BUILD's effect (R130): the first failing check is reported, or the Request registers are written. -/
def buildRequest (fc : Byte) (o : BuildOperands) (s : State) : State :=
  match buildFailure s.enforceMaxima fc o with
  | some sub => raiseFailure .validation sub (invalidateRequest s)
  | none => complete .ok 0 0 (setRequest fc o s)

/-- BUILD (R130). -/
def execBuild (fc : Byte) (o : BuildOperands) (s : State) : Result := whenFree s fun s => .next (buildRequest fc o s)

end Sys2Proof.Machine
end

