-- ==== Sys2Proof/Machine/Client.lean ====
section
/-! DEFINITION. The client family: READC, READH (45_client.md R220 to R224). -/

namespace Sys2Proof.Machine

/-- The stages of a READ that run at once (R222): BUILD's body, SEND's body, RECV's body with PEND = READ. A stage that fails ends the
command. Stage 4 is DECODE, which frame-complete runs (R146). -/
def startRead (fc : Byte) (o : BuildOperands) (s : State) : State :=
  match buildFailure s.enforceMaxima fc o with
  | some sub => raiseFailure .validation sub (invalidateRequest s)
  | none =>
    if s.link = false then raiseFailure .notConnected 0 (setRequest fc o s)
    else armReceive .read (transmitRequest (setRequest fc o s))

/-- READC: function code 0x01 (R220). -/
def execReadc (o : BuildOperands) (s : State) : Result := whenFree s fun s => .next (startRead 0x01#8 o s)

/-- READH: function code 0x03 (R221). -/
def execReadh (o : BuildOperands) (s : State) : Result := whenFree s fun s => .next (startRead 0x03#8 o s)

end Sys2Proof.Machine
end

