-- ==== Sys2Proof/Machine/Codec.lean ====
section
/-! DEFINITION. The register value codec family: VALUES and VALUE in their eight forms (44_register_value_codec.md R190 to R209,
R213). Neither looks at the function code of the Response, and neither changes any state but ERR and ERRLOG. -/

namespace Sys2Proof.Machine

/-- VALUES for one type (R200): every whole chunk of the data, decoded and delivered in index order. -/
def deliverValues (t : NumType) (s : State) : Result :=
  if s.rspValid = false then .next (raiseFailure .precondition 2 s)
  else
    let n := chunkCount t s.rspBc
    match s.rspData.readBytes 0 (n * typeWidth t) with
    | none => .fault .unwrittenByte
    | some data =>
      .next (complete .ok 0 (BitVec.ofNat 32 n) { s with values := s.values ++ valWords t data n })

/-- VALUE for one type (R201): the chunk of a 0-based index, or DECODE_RANGE where there is none. -/
def deliverValue (t : NumType) (index : Half) (s : State) : Result :=
  if s.rspValid = false then .next (raiseFailure .precondition 2 s)
  else if chunkCount t s.rspBc ≤ index.toNat then .next (raiseFailure .decodeRange 0 s)
  else match s.rspData.readBytes (index.toNat * typeWidth t) (typeWidth t) with
  | none => .fault .unwrittenByte
  | some chunk => .next (complete .ok 0 1 { s with values := s.values ++ [valWord t (beNat chunk)] })

/-- VALUES.INT16 (R200, R192). -/
def execValuesInt16 (s : State) : Result := whenFree s fun s => deliverValues .int16 s

/-- VALUES.UINT16 (R200, R193). -/
def execValuesUint16 (s : State) : Result := whenFree s fun s => deliverValues .uint16 s

/-- VALUES.INT32 (R200, R194). -/
def execValuesInt32 (s : State) : Result := whenFree s fun s => deliverValues .int32 s

/-- VALUES.UINT32 (R200, R195). -/
def execValuesUint32 (s : State) : Result := whenFree s fun s => deliverValues .uint32 s

/-- VALUES.FLOAT32 (R200, R196). -/
def execValuesFloat32 (s : State) : Result := whenFree s fun s => deliverValues .float32 s

/-- VALUES.INT64 (R200, R197). -/
def execValuesInt64 (s : State) : Result := whenFree s fun s => deliverValues .int64 s

/-- VALUES.UINT64 (R200, R198). -/
def execValuesUint64 (s : State) : Result := whenFree s fun s => deliverValues .uint64 s

/-- VALUES.FLOAT64 (R200, R199). -/
def execValuesFloat64 (s : State) : Result := whenFree s fun s => deliverValues .float64 s

/-- VALUE.INT16 (R201, R192). -/
def execValueInt16 (index : Half) (s : State) : Result := whenFree s fun s => deliverValue .int16 index s

/-- VALUE.UINT16 (R201, R193). -/
def execValueUint16 (index : Half) (s : State) : Result := whenFree s fun s => deliverValue .uint16 index s

/-- VALUE.INT32 (R201, R194). -/
def execValueInt32 (index : Half) (s : State) : Result := whenFree s fun s => deliverValue .int32 index s

/-- VALUE.UINT32 (R201, R195). -/
def execValueUint32 (index : Half) (s : State) : Result := whenFree s fun s => deliverValue .uint32 index s

/-- VALUE.FLOAT32 (R201, R196). -/
def execValueFloat32 (index : Half) (s : State) : Result := whenFree s fun s => deliverValue .float32 index s

/-- VALUE.INT64 (R201, R197). -/
def execValueInt64 (index : Half) (s : State) : Result := whenFree s fun s => deliverValue .int64 index s

/-- VALUE.UINT64 (R201, R198). -/
def execValueUint64 (index : Half) (s : State) : Result := whenFree s fun s => deliverValue .uint64 index s

/-- VALUE.FLOAT64 (R201, R199). -/
def execValueFloat64 (index : Half) (s : State) : Result := whenFree s fun s => deliverValue .float64 index s

end Sys2Proof.Machine
end

