-- ==== Sys2Proof/Machine/Session.lean ====
section
/-! DEFINITION. The transport session family: CONNECT, DISCONNECT, SEND, RECV (42_transport_session.md R140 to R143, R160 to
R163). -/

namespace Sys2Proof.Machine

/-- CONNECT's effect (R140). A successful connect presents a fresh stream, so nothing that waited in the collaborator's queue is
delivered on it. -/
def connectSession (s : State) : State :=
  if s.link then raiseFailure .precondition 3 s
  else if connectReply s then
    complete .ok 0 1 { freshStream (connectReq s) with link := true, connFail := false, inFlight := false }
  else
    complete .ok 0 0 { connectReq s with connFail := true, errLog := s.errLog ||| stickyBit .connectionFailure }

/-- CONNECT (R140). -/
def execConnect (s : State) : Result := whenFree s fun s => .next (connectSession s)

/-- A pending command's record when a DISCONNECT is forced on it: IO_ERROR(1) (R161). -/
def abandonReceive (s : State) : State :=
  if s.pend = .none then s else raiseFailure .ioError 1 (stopReceive s)

/-- LINK becomes 0, with a CloseReq if it was 1 (R141). -/
def closeSession (s : State) : State := if s.link then { closeReq s with link := false } else s

/-- DISCONNECT: accepted also while a receive is pending (R141, R161). -/
def execDisconnect (s : State) : Result :=
  .next (complete .ok 0 0 { closeSession (abandonReceive s) with inFlight := false })

/-- SEND's effect (R142). -/
def sendRequest (s : State) : State :=
  if s.reqValid = false then raiseFailure .precondition 0 s
  else if s.link = false then raiseFailure .notConnected 0 s
  else complete .ok 0 (BitVec.ofNat 32 Config.txLen) (transmitRequest s)

/-- SEND (R142). -/
def execSend (s : State) : Result := whenFree s fun s => .next (sendRequest s)

/-- RECV's effect: no completion record yet (R143). -/
def startReceive (s : State) : State :=
  if s.link = false then raiseFailure .notConnected 0 s else armReceive .recv s

/-- RECV (R143). -/
def execRecv (s : State) : Result := whenFree s fun s => .next (startReceive s)

end Sys2Proof.Machine
end

