-- ==== Sys2Proof/Machine/System.lean ====
section
/-! DEFINITION. The system family: RESET, the hard reset, and the register read port (46_system.md R230 to R232;
70_reset_and_hazards.md R280). -/

namespace Sys2Proof.Machine

/-- RESET: accepted also while a receive is pending, whose command is abandoned without a record (R230). -/
def execReset (s : State) : Result := .next (complete .ok 0 0 (resetBlock s))

/-- The hard reset input: the same effect as RESET and no record (R230, R280). -/
def hardReset (s : State) : Result := .next (resetBlock s)

/-- A read of a status register: no side effect, not held; refused where the value is unspecified (R231). -/
def readRegister (number : Nat) (s : State) : Result :=
  match readStatus s number with
  | some v => .next { s with readOut := s.readOut ++ [.register v] }
  | none => .refused (.unspecifiedRegister number)

/-- A read of a window byte: no side effect, not held; refused outside the meaningful range (R231). -/
def readWindow (window offset : Nat) (s : State) : Result :=
  match readWindowByte s window offset with
  | some b => .next { s with readOut := s.readOut ++ [.window b] }
  | none => .refused (.unspecifiedWindow window offset)

end Sys2Proof.Machine
end

