-- ==== Sys2Proof/Machine/Decoder.lean ====
section
/-! DEFINITION. The response decoder family: LOADF, DECODE (43_response_decoder.md R170 to R181). -/

namespace Sys2Proof.Machine

/-- LOADF's effect (R170). A length over RX_CAP is ILLEGAL_COMMAND(2) and takes no payload byte. The bytes of an earlier frame
above NBYTES hold no specified value any more (R30). -/
def loadFrame (nbytes : BitVec 24) (payload : List Byte) (s : State) : Result :=
  if Config.rxCap < nbytes.toNat then .next (raiseFailure .illegalCommand 2 s)
  else match writeBuffer Config.rxCap [] 0 payload with
  | none => .fault .outsideBuffer
  | some m =>
    .next (complete .ok 0 (nbytes.setWidth 32) { s with rxBuf := m, rxLen := BitVec.ofNat 17 nbytes.toNat, rxValid := true })

/-- LOADF (R170). -/
def execLoadf (nbytes : BitVec 24) (payload : List Byte) (s : State) : Result :=
  whenFree s fun s => loadFrame nbytes payload s

/-- What DECODE makes of the frame it has read: a Response, or a failure that leaves none (R171). -/
def applyFrame (f : List Byte) (s : State) : State :=
  match parseFrame f with
  | .error (k, sub) => raiseFailure k sub (invalidateResponse s)
  | .ok r => complete .ok 0 (r.bc.setWidth 32) (setResponse r s)

/-- The body of DECODE, which READC and READH run too (R171, R222). -/
def decodeResponseFrame (s : State) : Result :=
  if s.rxValid = false then .next (raiseFailure .precondition 1 s)
  else match s.rxBuf.readBytes 0 s.rxLen.toNat with
  | none => .fault .unwrittenByte
  | some f => .next (applyFrame f s)

/-- DECODE (R171). -/
def execDecode (s : State) : Result := whenFree s fun s => decodeResponseFrame s

end Sys2Proof.Machine
end

