-- ==== Sys2Proof/Machine/Deframer.lean ====
section
/-! DEFINITION. The deframer and the answers of the transport collaborator (42_transport_session.md R144 to R151; 60_exceptions.md
R252; 30_encoding.md R107). -/

namespace Sys2Proof.Machine

/-- frame-complete (R146): the pending RECV completes, or the pending READC or READH goes on to DECODE. -/
def frameComplete (s : State) : Result :=
  let t := { s with rxState := .idle, rxNeed := 0, rxValid := true, inFlight := false }
  match s.pend with
  | .none => .next t
  | .recv => .next (complete .ok 0 (s.rxLen.setWidth 32) t)
  | .read => decodeResponseFrame { t with pend := .none }

/-- header-complete (R145): the length field says how many PDU bytes remain. -/
def headerComplete (s : State) : Result :=
  match s.rxBuf.readBytes 4 2 with
  | none => .fault .unwrittenByte
  | some bytes =>
    if remainingBytes (be16 bytes 0) = 0 then frameComplete s
    else .next { s with rxState := .body, rxNeed := BitVec.ofNat 16 (remainingBytes (be16 bytes 0)) }

/-- The deframer step on a byte (R144). -/
def deframeByte (b : Byte) (s : State) : Result :=
  match writeBuffer Config.rxCap s.rxBuf s.rxLen.toNat [b] with
  | none => .fault .outsideBuffer
  | some m =>
    let t := { s with rxBuf := m, rxLen := s.rxLen + 1, rxNeed := s.rxNeed - 1 }
    if s.rxNeed - 1 = 0 then
      if s.rxState = .hdr then headerComplete t else frameComplete t
    else .next t

/-- The sub-code of STREAM_CLOSED: 0 in the header, 1 in the payload (R147, R242). -/
def closedSub (r : RxState) : BitVec 4 := if r = .hdr then 0 else 1

/-- The deframer step on an answer to the outstanding RxRead (R144, R147, R148). -/
def deframe (a : Answer) (s : State) : Result :=
  match a with
  | .byte b => deframeByte b s
  | .closed => .next (raiseFailure .streamClosed (closedSub s.rxState) (stopReceive s))
  | .fault => .next (raiseFailure .ioError 0 (stopReceive s))

/-- The collaborator answers the outstanding RxRead with the oldest answer that waits. While RXSTATE is IDLE no RxRead is outstanding
and everything goes on waiting (R42, R252). -/
def collaboratorTurn (s : State) : Result :=
  if s.rxState = .idle then .next s
  else match s.rxQueue with
  | [] => .next s
  | a :: as => deframe a { s with rxQueue := as }

/-- An answer joins those that wait in the collaborator. A `Closed` is the end of the stream: no byte comes after it on the same
connection, so one that is presented then is not queued (R75; log entry 23). -/
def queueAnswer (a : Answer) (s : State) : State :=
  match a with
  | .byte _ => if s.peerClosed then s else { s with rxQueue := s.rxQueue ++ [a] }
  | .closed => { s with rxQueue := s.rxQueue ++ [a], peerClosed := true }
  | .fault => { s with rxQueue := s.rxQueue ++ [a] }

/-- An answer becomes available in the collaborator, behind those that wait already, and the outstanding RxRead, if there is one, is
answered (R75, R252). -/
def answerArrives (a : Answer) (s : State) : Result := collaboratorTurn (queueAnswer a s)

/-- Answers that become available one after the other, each answering the RxRead that is outstanding then (R107, R150). -/
def answersArrive : List Answer → State → Result
  | [], s => .next s
  | a :: as, s => andThen (answerArrives a s) (answersArrive as)

/-- ANSWER.NONE: the deframer waits and nothing changes (R149). -/
def execAnswerNone (s : State) : Result := .next s

/-- ANSWER.BYTE (R144). -/
def execAnswerByte (b : Byte) (s : State) : Result := answerArrives (.byte b) s

/-- ANSWER.CLOSED (R147). -/
def execAnswerClosed (s : State) : Result := answerArrives .closed s

/-- ANSWER.FAULT (R148). -/
def execAnswerFault (s : State) : Result := answerArrives .fault s

end Sys2Proof.Machine
end

