-- ==== Sys2Proof/Machine/Wire.lean ====
section
/-! DEFINITION. The wire formats as transactions of the two streams (30_encoding.md R92, R93; log entries 8 and 9). They are no
commands: they have no completion record. -/

namespace Sys2Proof.Machine

/-- A request frame goes out on the TX stream as one push. On a Disconnected session there is no stream, and nothing is pushed
(R92, R142). -/
def transmitFrame (bytes : List Byte) (s : State) : State := if s.link then txPush bytes s else s

/-- FRAME.REQ.READ_COILS: the twelve bytes of R92 with function code 0x01. -/
def execFrameReqReadCoils (tid : Half) (unit : Byte) (addr qty : Half) (s : State) : Result :=
  .next (transmitFrame (requestFrame tid unit 0x01#8 addr qty) s)

/-- FRAME.REQ.READ_HOLDING_REGISTERS: the twelve bytes of R92 with function code 0x03. -/
def execFrameReqReadHoldingRegisters (tid : Half) (unit : Byte) (addr qty : Half) (s : State) : Result :=
  .next (transmitFrame (requestFrame tid unit 0x03#8 addr qty) s)

/-- Bytes that the peer has sent become available one after the other, each answering the RxRead that is outstanding then (R107,
R150). -/
def bytesArrive (bytes : List Byte) (s : State) : Result := answersArrive (bytes.map Answer.byte) s

/-- FRAME.RSP: the first nine bytes of a response frame arrive on the RX stream (R93, R107). -/
def execFrameRsp (tid pid len : Half) (unit fc bc : Byte) (s : State) : Result :=
  bytesArrive (responseStart tid pid len unit fc bc) s

end Sys2Proof.Machine
end

