-- ==== Sys2Proof/Machine/Dispatch.lean ====
section
/-! DEFINITION. One arm for each instruction: the call of its meaning. -/

namespace Sys2Proof.Machine

def exec (i : Instr) (s : State) : Host.Outcome State Fault Refusal :=
  match i with
  | .reset => Sys2Proof.Machine.execReset s
  | .build fc ops => Sys2Proof.Machine.execBuild fc ops s
  | .connect => Sys2Proof.Machine.execConnect s
  | .disconnect => Sys2Proof.Machine.execDisconnect s
  | .send => Sys2Proof.Machine.execSend s
  | .recv => Sys2Proof.Machine.execRecv s
  | .loadf nbytes payload => Sys2Proof.Machine.execLoadf nbytes payload s
  | .decode => Sys2Proof.Machine.execDecode s
  | .valuesInt16 => Sys2Proof.Machine.execValuesInt16 s
  | .valuesUint16 => Sys2Proof.Machine.execValuesUint16 s
  | .valuesInt32 => Sys2Proof.Machine.execValuesInt32 s
  | .valuesUint32 => Sys2Proof.Machine.execValuesUint32 s
  | .valuesFloat32 => Sys2Proof.Machine.execValuesFloat32 s
  | .valuesInt64 => Sys2Proof.Machine.execValuesInt64 s
  | .valuesUint64 => Sys2Proof.Machine.execValuesUint64 s
  | .valuesFloat64 => Sys2Proof.Machine.execValuesFloat64 s
  | .valueInt16 index => Sys2Proof.Machine.execValueInt16 index s
  | .valueUint16 index => Sys2Proof.Machine.execValueUint16 index s
  | .valueInt32 index => Sys2Proof.Machine.execValueInt32 index s
  | .valueUint32 index => Sys2Proof.Machine.execValueUint32 index s
  | .valueFloat32 index => Sys2Proof.Machine.execValueFloat32 index s
  | .valueInt64 index => Sys2Proof.Machine.execValueInt64 index s
  | .valueUint64 index => Sys2Proof.Machine.execValueUint64 index s
  | .valueFloat64 index => Sys2Proof.Machine.execValueFloat64 index s
  | .readc ops => Sys2Proof.Machine.execReadc ops s
  | .readh ops => Sys2Proof.Machine.execReadh ops s
  | .frameReqReadCoils tid unit addr qty => Sys2Proof.Machine.execFrameReqReadCoils tid unit addr qty s
  | .frameReqReadHoldingRegisters tid unit addr qty => Sys2Proof.Machine.execFrameReqReadHoldingRegisters tid unit addr qty s
  | .frameRsp tid pid len unit fc bc => Sys2Proof.Machine.execFrameRsp tid pid len unit fc bc s
  | .answerNone => Sys2Proof.Machine.execAnswerNone s
  | .answerByte b => Sys2Proof.Machine.execAnswerByte b s
  | .answerClosed => Sys2Proof.Machine.execAnswerClosed s
  | .answerFault => Sys2Proof.Machine.execAnswerFault s

end Sys2Proof.Machine
end

