-- ==== Sys2Proof/Machine/Port.lean ====
section
/-! DEFINITION. How the ports take what arrives on them: the command port with its hold (42_transport_session.md R160; 60_exceptions.md
R253), the transport port, the streams, the register read port and the reset input. -/

namespace Sys2Proof.Machine

/-- The word that is exactly a legal RESET (R98, R102). -/
def resetWord : CommandWord := 0x010000000000000000000000#96

/-- The word that is exactly a legal DISCONNECT (R98, R102). -/
def disconnectWord : CommandWord := 0x110000000000000000000000#96

/-- Whether the command port takes this word: any word while nothing is pending, else only a legal DISCONNECT or RESET (R160). -/
def portAccepts (p : Pend) (c : Command) : Bool := p == .none || c.cw == disconnectWord || c.cw == resetWord

/-- The first of the waiting commands that the port takes, and those that go on waiting. -/
def takeWaiting (p : Pend) : List Command → Option (Command × List Command)
  | [] => none
  | c :: cs =>
    if portAccepts p c then some (c, cs)
    else match takeWaiting p cs with
    | none => none
    | some (d, ds) => some (d, c :: ds)

/-- A command that the port has taken: legality is the first check, and an illegal word changes nothing but ERR and ERRLOG (R103,
R250, R253). -/
def runCommand (c : Command) (s : State) : Result :=
  match decodeCommand c with
  | .ok i => exec i s
  | .error .unassignedOpcode => .next (raiseFailure .illegalCommand 0 s)
  | .error .reservedBit => .next (raiseFailure .illegalCommand 1 s)
  | .error .payloadMissing => .refused .payloadMissing
  | .error .notARequestFrame => .refused .notAPortWord
  | .error .notAnAnswer => .refused .notAPortWord

/-- The command port takes the first waiting command it accepts; if it accepts none, the host goes on waiting (R160). -/
def hostTurn (s : State) : Result :=
  match takeWaiting s.pend s.waiting with
  | none => .next s
  | some (c, rest) => runCommand c { s with waiting := rest }

/-- A word arrives on its port. A command word stands behind those that wait, and the port then takes what it accepts. -/
def wordArrives (w : PortWord) (s : State) : Result :=
  match w with
  | .command c => hostTurn { s with waiting := s.waiting ++ [c] }
  | .request _ | .response _ | .answer _ =>
    match decode w with
    | .ok i => exec i s
    | .error _ => .refused .notAPortWord

/-- One move of one agent (R12). -/
def handleEvent (e : Event) (s : State) : Result :=
  match e with
  | .arrive w => wordArrives w s
  | .host => hostTurn s
  | .collaborator => collaboratorTurn s
  | .rst => hardReset s
  | .readRegister number => readRegister number s
  | .readWindow window offset => readWindow window offset s

/-- The next move of the inbox; without one nothing moves (R149, R281). -/
def stepOnce (s : State) : Result :=
  match s.inbox with
  | [] => .next s
  | e :: es => handleEvent e { s with inbox := es }

/-- `s` with a port word as its next move: a command word stands first on the command port and the port looks at it; any other word
arrives on its port. -/
def presentWord (p : PortWord) (s : State) : State :=
  match p with
  | .command c => { s with waiting := c :: s.waiting, inbox := .host :: s.inbox }
  | .request _ | .response _ | .answer _ => { s with inbox := .arrive p :: s.inbox }

end Sys2Proof.Machine
end

