-- ==== Sys2Proof/Machine/Denote.lean ====
section
/-! DEFINITION. What number a chunk or a VAL word denotes (44_register_value_codec.md R192 to R199, R203 to R206). No command
depends on it: the block delivers patterns and does no arithmetic (R205). The two float layouts are the spec's own, marked there
as general knowledge (93_implementation_defined.md G2, G3; log entry 24). -/

namespace Sys2Proof.Machine

/-- The datum of an IEEE-754 pattern; `neg` is the sign bit. A subnormal or normal datum is (-1)^neg * mantissa * 2^exponent, exactly
(R203, R204). -/
inductive FloatDatum where
  | zero (neg : Bool)
  | subnormal (neg : Bool) (mantissa : Nat) (exponent : Int)
  | normal (neg : Bool) (mantissa : Nat) (exponent : Int)
  | infinity (neg : Bool)
  | nan (neg quiet : Bool) (payload : Nat)
deriving DecidableEq, Repr

/-- What a pattern denotes under a type: an integer or a float datum. -/
inductive Datum where
  | integer (i : Int)
  | float (d : FloatDatum)
deriving DecidableEq, Repr

/-- The table of R203 and R204, for a format of `eBits` exponent bits and `fBits` fraction bits. -/
def floatTable (eBits fBits : Nat) (neg : Bool) (e f : Nat) : FloatDatum :=
  let bias : Int := 2 ^ (eBits - 1) - 1
  if e = 0 then
    if f = 0 then .zero neg else .subnormal neg f (1 - bias - fBits)
  else if e = 2 ^ eBits - 1 then
    if f = 0 then .infinity neg
    else .nan neg (decide (2 ^ (fBits - 1) ≤ f)) (f % 2 ^ (fBits - 1))
  else .normal neg (2 ^ fBits + f) (e - bias - fBits)

/-- binary32: s = r[31], e = r[30:23], f = r[22:0] (R203). -/
def binary32 (r : BitVec 32) : FloatDatum :=
  floatTable 8 23 (r.getLsbD 31) (r.extractLsb' 23 8).toNat (r.extractLsb' 0 23).toNat

/-- binary64: s = r[63], e = r[62:52], f = r[51:0] (R204). -/
def binary64 (r : BitVec 64) : FloatDatum :=
  floatTable 11 52 (r.getLsbD 63) (r.extractLsb' 52 11).toNat (r.extractLsb' 0 52).toNat

/-- What a chunk with raw value r denotes (R192 to R199). -/
def denoteRaw (t : NumType) (r : Nat) : Datum :=
  match t with
  | .int16 => .integer (BitVec.ofNat 16 r).toInt
  | .int32 => .integer (BitVec.ofNat 32 r).toInt
  | .int64 => .integer (BitVec.ofNat 64 r).toInt
  | .uint16 | .uint32 | .uint64 => .integer r
  | .float32 => .float (binary32 (BitVec.ofNat 32 r))
  | .float64 => .float (binary64 (BitVec.ofNat 64 r))

/-- What a VAL word denotes to a host that knows the type from its command: `signed_64(VAL)` for a signed type, VAL for an unsigned
one, the pattern's datum for a float (R206). -/
def denoteVal (t : NumType) (v : Val) : Datum :=
  match t with
  | .int16 | .int32 | .int64 => .integer v.toInt
  | .uint16 | .uint32 | .uint64 => .integer v.toNat
  | .float32 => .float (binary32 (v.setWidth 32))
  | .float64 => .float (binary64 v)

end Sys2Proof.Machine
end

