-- ==== Sys2Proof/Machine/Listing.lean ====
section
/-! DEFINITION. The textual form of commands and transport answers, and the pseudo-commands (30_encoding.md R108, R109). -/

namespace Sys2Proof.Machine

/-- The name of a type in a listing (R95, R108). -/
def typeName : NumType → String
  | .int16 => "INT16"
  | .uint16 => "UINT16"
  | .int32 => "INT32"
  | .uint32 => "UINT32"
  | .float32 => "FLOAT32"
  | .int64 => "INT64"
  | .uint64 => "UINT64"
  | .float64 => "FLOAT64"

/-- One hexadecimal digit. -/
def hexDigit (n : Nat) : String := "0123456789ABCDEF".toList.getD n '?' |>.toString

/-- A byte sequence as two hexadecimal digits a byte, separated by spaces (R108). -/
def hexBytes (bytes : List Byte) : String :=
  " ".intercalate (bytes.map fun b => hexDigit (b.toNat / 16) ++ hexDigit (b.toNat % 16))

/-- The operands of format B; an operand whose presence bit is 0 is left out (R108). -/
def listOperands (o : BuildOperands) : String :=
  "unit=" ++ toString o.unit.toNat ++ ", tid=" ++ toString o.tid.toNat
    ++ (if o.ps then ", start=" ++ toString o.start.toNat else "")
    ++ (if o.pc then ", count=" ++ toString o.count.toNat else "")

/-- A line of a listing (R108); none for the rows that have no textual form. -/
def listing : Instr → Option String
  | .reset => some "RESET"
  | .build fc o => some ("BUILD fc=" ++ toString fc.toNat ++ ", " ++ listOperands o)
  | .connect => some "CONNECT"
  | .disconnect => some "DISCONNECT"
  | .send => some "SEND"
  | .recv => some "RECV"
  | .loadf _ payload => some ("LOADF " ++ hexBytes payload)
  | .decode => some "DECODE"
  | .valuesInt16 => some ("VALUES " ++ typeName .int16)
  | .valuesUint16 => some ("VALUES " ++ typeName .uint16)
  | .valuesInt32 => some ("VALUES " ++ typeName .int32)
  | .valuesUint32 => some ("VALUES " ++ typeName .uint32)
  | .valuesFloat32 => some ("VALUES " ++ typeName .float32)
  | .valuesInt64 => some ("VALUES " ++ typeName .int64)
  | .valuesUint64 => some ("VALUES " ++ typeName .uint64)
  | .valuesFloat64 => some ("VALUES " ++ typeName .float64)
  | .valueInt16 i => some ("VALUE " ++ typeName .int16 ++ ", index=" ++ toString i.toNat)
  | .valueUint16 i => some ("VALUE " ++ typeName .uint16 ++ ", index=" ++ toString i.toNat)
  | .valueInt32 i => some ("VALUE " ++ typeName .int32 ++ ", index=" ++ toString i.toNat)
  | .valueUint32 i => some ("VALUE " ++ typeName .uint32 ++ ", index=" ++ toString i.toNat)
  | .valueFloat32 i => some ("VALUE " ++ typeName .float32 ++ ", index=" ++ toString i.toNat)
  | .valueInt64 i => some ("VALUE " ++ typeName .int64 ++ ", index=" ++ toString i.toNat)
  | .valueUint64 i => some ("VALUE " ++ typeName .uint64 ++ ", index=" ++ toString i.toNat)
  | .valueFloat64 i => some ("VALUE " ++ typeName .float64 ++ ", index=" ++ toString i.toNat)
  | .readc o => some ("READC " ++ listOperands o)
  | .readh o => some ("READH " ++ listOperands o)
  | .answerByte b => some ("rx " ++ hexBytes [b])
  | .answerClosed => some "rx-close"
  | .answerFault => some "rx-fault"
  | .frameReqReadCoils _ _ _ _ | .frameReqReadHoldingRegisters _ _ _ _ | .frameRsp _ _ _ _ _ _ | .answerNone => none

/-- DECODEF: LOADF of the bytes, then DECODE (R109). -/
def decodef (bytes : List Byte) : List Instr := [.loadf (BitVec.ofNat 24 bytes.length) bytes, .decode]

/-- XFER: SEND, RECV, DECODE (R109). -/
def xfer : List Instr := [.send, .recv, .decode]

/-- READ: READC for function code 1, READH for 3, otherwise not a command (R109). -/
def readPseudo (fc : Byte) (o : BuildOperands) : Option (List Instr) :=
  if fc = 0x01#8 then some [.readc o] else if fc = 0x03#8 then some [.readh o] else none

/-- The expansion of READC or READH: BUILD, SEND, RECV, DECODE, stopping at the first failure (R109, R222). -/
def readExpansion (fc : Byte) (o : BuildOperands) : List Instr := [.build fc o, .send, .recv, .decode]

end Sys2Proof.Machine
end

