-- ==== Sys2Proof/Safety.lean ====
section
/-! DEFINITION. What counts as a sound state and a run without recorded failure, in the terms the statements use (10_state.md R34, R36,
R44). -/

namespace Sys2Proof.Machine

/-- The answer is a byte. -/
def Answer.isByte : Answer → Bool
  | .byte _ => true
  | .closed => false
  | .fault => false

/-- The invariants of R44, with what R30, R33 and R34 say of the buffers and of TRAIL, and R75 of what waits in the collaborator. Item 5
of R44 is stated as what it leaves: while RSPVALID = 1 RSPDATA holds RSP_BC bytes, and the length field is that of a frame with those
bytes and TRAIL's trailing ones. -/
structure Inv (s : State) : Prop where
  /-- R44 item 1. -/
  pend_iff : s.pend = .none ↔ s.rxState = .idle
  /-- R44 item 2, IDLE. -/
  idle : s.rxState = .idle → s.rxNeed = 0
  /-- R44 item 2, HDR. -/
  hdr : s.rxState = .hdr →
    1 ≤ s.rxNeed.toNat ∧ s.rxNeed.toNat ≤ 7 ∧ s.rxLen.toNat = 7 - s.rxNeed.toNat ∧ s.rxValid = false
  /-- R44 item 2, BODY, with the exact count of R70. -/
  body : s.rxState = .body →
    1 ≤ s.rxNeed.toNat ∧ s.rxNeed.toNat ≤ 65534 ∧ 7 ≤ s.rxLen.toNat ∧ s.rxValid = false ∧
    ∃ bytes, s.rxBuf.readBytes 4 2 = some bytes ∧
      s.rxLen.toNat + s.rxNeed.toNat = 7 + remainingBytes (be16 bytes 0)
  /-- R44 item 3. -/
  pend_link : s.pend ≠ .none → s.link = true
  /-- R44 item 4. -/
  request : s.reqValid = true → supportedFc s.reqFc = true ∧ s.reqQty ≠ 0
  /-- R44 item 5 and R33: the data of a valid Response are there, and nothing else. -/
  response : s.rspValid = true → s.rspData.map Prod.fst = List.range s.rspBc.toNat
  /-- R34: the length equation holds exactly while TRAIL = 0. -/
  trail : s.rspValid = true →
    3 + s.rspBc.toNat ≤ s.rspLen.toNat ∧ (s.trail = false ↔ s.rspLen.toNat = 3 + s.rspBc.toNat)
  /-- R44 item 6. -/
  rxLen : s.rxLen.toNat ≤ Config.rxCap
  /-- R30: RXBUF holds the bytes at offsets 0 to RXLEN - 1, and nothing else. -/
  frame : s.rxBuf.map Prod.fst = List.range s.rxLen.toNat
  /-- R44 item 7. -/
  inFlight : s.link = false → s.inFlight = false
  /-- R44 item 8. -/
  errLog : s.errLog.getLsbD 0 = false ∧ s.errLog.getLsbD 8 = false
  /-- R75: no byte waits behind a `Closed`. -/
  closedLast : s.rxQueue.Pairwise fun a b => a = .closed → b.isByte = false
  /-- R75: while a `Closed` waits the peer has closed, so that no byte can join it. -/
  closedKnown : .closed ∈ s.rxQueue → s.peerClosed = true
  /-- R75: once the last `Closed` has been given, no byte waits. -/
  closedGiven : s.peerClosed = true → .closed ∉ s.rxQueue → ∀ a ∈ s.rxQueue, a.isByte = false

/-- No failure has been recorded since reset: the premise R36 names. -/
abbrev noFailureRecorded (s : State) : Prop := s.errLog = 0 ∧ s.seqErr = false

/-- The buffers are in canonical form. -/
abbrev buffersWf (s : State) : Prop := s.rxBuf.wf ∧ s.rspData.wf

/-- Several steps, one after the other. -/
def runSteps : Nat → State → Result
  | 0, s => .next s
  | n + 1, s => andThen (step s) (runSteps n)

/-- The instructions that arrive on the command port: the 26 command words (R102). -/
def onCommandPort (i : Instr) : Bool :=
  match encode i with
  | .command _ => true
  | .request _ | .response _ | .answer _ => false

end Sys2Proof.Machine
end

