-- ==== Sys2Proof/Certificates/Slice0/Obligations.lean ====
section
/-! DEFINITION. The statements for the provers. A docstring names the rule of spec/ a statement formalises, and the log entry where a
clause rests on a choice of the model. -/

open Sys2Proof Sys2Proof.Machine

/-! ### Completion and the registers the host reads -/

/-- R262 with the codes of R240, R35 and R36: what the end of a command writes, for every kind, and nothing else. -/
def Obligations.CompleteWritesErrErrlogPendAndRecord : Prop :=
  ∀ (k : Kind) (sub : BitVec 4) (res : Word32) (s : State), ∃ code : BitVec 4,
    (k, code) ∈ [(.ok, 0#4), (.connectionFailure, 1#4), (.streamClosed, 2#4), (.malformedFrame, 3#4),
      (.structuralMismatch, 4#4), (.decodeRange, 5#4), (.validation, 6#4), (.notConnected, 7#4), (.decodeError, 8#4),
      (.ioError, 9#4), (.illegalCommand, 10#4), (.precondition, 11#4)] ∧
    (∀ j < 12, (complete k sub res s).errLog.getLsbD j = (s.errLog.getLsbD j || decide (code ≠ 0#4 ∧ j = code.toNat))) ∧
    complete k sub res s =
      { s with
        err := BitVec.ofNat 8 (sub.toNat * 16 + code.toNat)
        errLog := (complete k sub res s).errLog
        pend := .none
        results := s.results ++ [⟨k, sub, res⟩] }

/-- R37: the layout of STATUS, bit by bit. -/
def Obligations.StatusWordShowsEachFlagAtItsBit : Prop :=
  ∀ s : State, ∃ v : Word32, readStatus s 0 = some v ∧
    v.getLsbD 0 = s.link ∧ v.getLsbD 1 = s.reqValid ∧ v.getLsbD 2 = s.rxValid ∧ v.getLsbD 3 = s.rspValid ∧
    (v.extractLsb' 4 2).toNat = (match s.rxState with | .idle => 0 | .hdr => 1 | .body => 2) ∧
    (v.extractLsb' 6 2).toNat = (match s.pend with | .none => 0 | .recv => 1 | .read => 2) ∧
    v.getLsbD 8 = s.inFlight ∧ v.getLsbD 9 = s.seqErr ∧ v.getLsbD 10 = s.connFail ∧ v.getLsbD 11 = s.trail ∧
    v.extractLsb' 12 20 = 0#20

/-- R38: the other status registers, field by field, each where R231 says it is defined. -/
def Obligations.StatusRegistersShowTheirFields : Prop :=
  ∀ s : State,
    (∃ v : Word32, readStatus s 1 = some v ∧ v.extractLsb' 0 8 = s.err ∧ v.extractLsb' 8 24 = 0#24) ∧
    (∃ v : Word32, readStatus s 2 = some v ∧ v.extractLsb' 0 12 = s.errLog ∧ v.extractLsb' 12 20 = 0#20) ∧
    (s.reqValid = true →
      (∃ v : Word32, readStatus s 3 = some v ∧ v.extractLsb' 16 16 = s.reqTid ∧ v.extractLsb' 8 8 = s.reqFc ∧
        v.extractLsb' 0 8 = s.reqUnit) ∧
      (∃ v : Word32, readStatus s 4 = some v ∧ v.extractLsb' 16 16 = s.reqAddr ∧ v.extractLsb' 0 16 = s.reqQty)) ∧
    (∃ v : Word32, readStatus s 5 = some v ∧ v.extractLsb' 0 17 = s.rxLen ∧ v.extractLsb' 17 15 = 0#15) ∧
    (∃ v : Word32, readStatus s 6 = some v ∧ v.extractLsb' 0 16 = s.rxNeed ∧ v.extractLsb' 16 16 = 0#16) ∧
    (s.rspValid = true →
      (∃ v : Word32, readStatus s 7 = some v ∧ v.extractLsb' 16 16 = s.rspTid ∧ v.extractLsb' 0 16 = s.rspPid) ∧
      (∃ v : Word32, readStatus s 8 = some v ∧ v.extractLsb' 16 16 = s.rspLen ∧ v.extractLsb' 8 8 = s.rspUnit ∧
        v.extractLsb' 0 8 = s.rspFc) ∧
      (∃ v : Word32, readStatus s 9 = some v ∧ v.extractLsb' 0 8 = s.rspBc ∧ v.extractLsb' 8 24 = 0#24))

/-- R231: which reads are refused, and that a read which is not delivers its value with no side effect, also while a receive is
pending. -/
def Obligations.ReadPortRefusesUnspecifiedAndHasNoSideEffect : Prop :=
  ∀ (s : State) (es : List Event),
    (∀ number, s.inbox = .readRegister number :: es →
      if 10 ≤ number ∨ (number ∈ [3, 4] ∧ s.reqValid = false) ∨ (number ∈ [7, 8, 9] ∧ s.rspValid = false) then
        step s = .refused (.unspecifiedRegister number)
      else ∃ v, readStatus s number = some v ∧
        step s = .next { s with inbox := es, readOut := s.readOut ++ [.register v] }) ∧
    (∀ window offset, s.inbox = .readWindow window offset :: es →
      if 3 ≤ window ∨ (window = 0 ∧ (s.reqValid = false ∨ 12 ≤ offset)) ∨ (window = 1 ∧ s.rxLen.toNat ≤ offset) ∨
          (window = 2 ∧ (s.rspValid = false ∨ s.rspBc.toNat ≤ offset)) then
        step s = .refused (.unspecifiedWindow window offset)
      else ∀ b, readWindowByte s window offset = some b →
        step s = .next { s with inbox := es, readOut := s.readOut ++ [.window b] })

/-- R39 with R23, R30 and R33: what the windows show where they are meaningful. -/
def Obligations.WindowsShowTheBuffers : Prop :=
  ∀ (s : State) (offset : Nat),
    (s.reqValid = true → offset < 12 → readWindowByte s 0 offset =
      [s.reqTid.extractLsb' 8 8, s.reqTid.extractLsb' 0 8, 0x00#8, 0x00#8, 0x00#8, 0x06#8, s.reqUnit, s.reqFc,
        s.reqAddr.extractLsb' 8 8, s.reqAddr.extractLsb' 0 8, s.reqQty.extractLsb' 8 8,
        s.reqQty.extractLsb' 0 8][offset]?) ∧
    (offset < s.rxLen.toNat → readWindowByte s 1 offset = s.rxBuf.read? offset) ∧
    (s.rspValid = true → offset < s.rspBc.toNat → readWindowByte s 2 offset = s.rspData.read? offset)

/-! ### Reset -/

/-- R43, and RESET of R230: every piece of state at its reset value in every state, the registers and bytes R43 leaves unspecified
unreadable, CloseReq when the session was Connected, one record; the other agents' inputs and the outputs already given stay (log
entry 12). -/
def Obligations.ResetGivesEveryPieceOfStateItsResetValue : Prop :=
  ∀ s : State, ∃ t, exec .reset s = .next t ∧
    t.link = false ∧ t.connFail = false ∧ t.inFlight = false ∧ t.seqErr = false ∧
    t.reqValid = false ∧ t.rxValid = false ∧ t.rspValid = false ∧ t.trail = false ∧
    t.pend = .none ∧ t.rxState = .idle ∧ t.rxNeed = 0 ∧ t.rxLen = 0 ∧ t.err = 0 ∧ t.errLog = 0 ∧
    (∀ number ∈ [3, 4, 7, 8, 9], readStatus t number = none) ∧ (∀ window offset, readWindowByte t window offset = none) ∧
    t.transport = (if s.link = true then s.transport ++ [.close] else s.transport) ∧
    t.rxQueue = (if s.link = true then [] else s.rxQueue) ∧
    t.peerClosed = (if s.link = true then false else s.peerClosed) ∧
    t.results = s.results ++ [⟨.ok, 0, 0⟩] ∧
    t.inbox = s.inbox ∧ t.waiting = s.waiting ∧ t.connAnswers = s.connAnswers ∧ t.values = s.values ∧
    t.readOut = s.readOut ∧ t.enforceMaxima = s.enforceMaxima ∧ t.free = s.free

/-- R280: the hard reset input has RESET's effect, without a record, whatever is pending. -/
def Obligations.HardResetIsResetWithoutARecord : Prop :=
  ∀ (s : State) (es : List Event), s.inbox = .rst :: es →
    ∃ t, step s = .next t ∧ t.results = s.results ∧
      exec .reset { s with inbox := es } = .next { t with results := t.results ++ [⟨.ok, 0, 0⟩] }

/-- R43: the state after reset, as the host reads it: the flags, ERR, ERRLOG and the counters are 0, every unspecified register and
byte is refused, and nothing moves until an agent does (R281). -/
def Obligations.ResetStateReadsAsTheSpecSays : Prop :=
  (∀ number ∈ [0, 1, 2, 5, 6], readStatus State.reset number = some 0) ∧
  (∀ number ∈ [3, 4, 7, 8, 9], readStatus State.reset number = none) ∧
  (∀ window offset, readWindowByte State.reset window offset = none) ∧
  step State.reset = .next State.reset

/-! ### BUILD -/

/-- R130 with R132: BUILD reports the first failing check, in the fixed order, and leaves REQVALID = 0, or writes the Request
registers. After a failure the Request registers are unspecified: the statement says nothing of them but that the host cannot read
them (log entry 3). -/
def Obligations.BuildReportsTheFirstFailureOrWritesTheRequest : Prop :=
  ∀ (fc : Byte) (o : BuildOperands) (s : State) (failure : Option (BitVec 4)), s.pend = .none →
    failure =
      (if o.ps = false then some 0
       else if o.pc = false then some 1
       else if fc ≠ 0x01#8 ∧ fc ≠ 0x03#8 then some 4
       else if o.start.toNat < 1 ∨ o.start.toNat > 65536 then some 2
       else if o.count.toNat = 0 then some 3
       else if s.enforceMaxima = true ∧
          ((fc = 0x03#8 ∧ o.count.toNat > 125) ∨ (fc = 0x01#8 ∧ o.count.toNat > 2000)) then some 5
       else none) →
    ∃ t, exec (.build fc o) s = .next t ∧
      match failure with
      | some sub =>
        t = complete .validation sub 0
          { s with reqUnit := t.reqUnit, reqTid := t.reqTid, reqFc := t.reqFc, reqAddr := t.reqAddr, reqQty := t.reqQty,
                   reqValid := false, free := t.free } ∧
        readStatus t 3 = none ∧ readStatus t 4 = none ∧ ∀ offset, readWindowByte t 0 offset = none
      | none =>
        t = complete .ok 0 0
          { s with reqUnit := o.unit, reqTid := o.tid, reqFc := fc, reqAddr := BitVec.ofNat 16 (o.start.toNat - 1),
                   reqQty := o.count, reqValid := true }

/-- R133 with R92 and R131: after every successful BUILD, whatever the state before, TXBUF is the twelve bytes with protocol_id 0, length
6 and the operands big-endian, start_address being START - 1. -/
def Obligations.BuiltFrameIsTheTwelveByteRequest : Prop :=
  ∀ (fc : Byte) (o : BuildOperands) (s t : State), s.pend = .none → exec (.build fc o) s = .next t → t.reqValid = true →
    ∃ addr : Half, addr.toNat + 1 = o.start.toNat ∧
      (txbuf t).map BitVec.toNat =
        [o.tid.toNat / 256, o.tid.toNat % 256, 0, 0, 0, 6, o.unit.toNat, fc.toNat, addr.toNat / 256, addr.toNat % 256,
          o.count.toNat / 256, o.count.toNat % 256] ∧
      (fc = 0x01#8 ∨ fc = 0x03#8) ∧ 1 ≤ o.count.toNat

/-! ### The session -/

/-- R140: CONNECT, whole: refused while Connected; else one ConnectReq, and the answer `a` decides. The answer is the next of the
inputs, and unconstrained where they hold none (log entry 6); a true answer presents a fresh stream. -/
def Obligations.ConnectRecordsTheCollaboratorsAnswer : Prop :=
  ∀ s : State, s.pend = .none → ∃ a : Bool, (∀ b rest, s.connAnswers = b :: rest → a = b) ∧
    exec .connect s = .next
      (if s.link = true then complete .precondition 3 0 s
       else if a = true then
        complete .ok 0 1
          { s with link := true, connFail := false, inFlight := false, rxQueue := [], peerClosed := false,
                   transport := s.transport ++ [.connect], connAnswers := s.connAnswers.tail,
                   free := if s.connAnswers = [] then s.free + 1 else s.free }
       else
        complete .ok 0 0
          { s with connFail := true, errLog := s.errLog ||| 0x002#12,
                   transport := s.transport ++ [.connect], connAnswers := s.connAnswers.tail,
                   free := if s.connAnswers = [] then s.free + 1 else s.free })

/-- R141, R161: DISCONNECT, whole: a pending receive ends first, with its own IO_ERROR(1) record; then the session closes, if it was
Connected, and the bytes that wait are lost. It is taken whatever is pending. -/
def Obligations.DisconnectClosesAndForcesAPendingReceive : Prop :=
  ∀ s t u : State,
    t = (if s.pend = .none then s else complete .ioError 1 0 { s with rxState := .idle, rxNeed := 0 }) →
    u = (if t.link = true then
          { t with link := false, transport := t.transport ++ [.close], rxQueue := [], peerClosed := false }
         else t) →
    exec .disconnect s = .next (complete .ok 0 0 { u with inFlight := false })

/-- R141: DISCONNECT is idempotent: after one, another only adds its record. -/
def Obligations.SecondDisconnectOnlyAddsItsRecord : Prop :=
  ∀ s t : State, exec .disconnect s = .next t →
    exec .disconnect t = .next { t with results := t.results ++ [⟨.ok, 0, 0⟩] }

/-- R142: SEND, whole: the Request check before the link check; else all twelve bytes of TXBUF in one push, SEQERR where a request was in
flight already, INFLIGHT, and 12 as the result. -/
def Obligations.SendPushesTxbufOrReportsWhatIsMissing : Prop :=
  ∀ s : State, s.pend = .none →
    exec .send s = .next
      (if s.reqValid = false then complete .precondition 0 0 s
       else if s.link = false then complete .notConnected 0 0 s
       else complete .ok 0 12
        { s with transport := s.transport ++ [.push (txbuf s)], seqErr := s.seqErr || s.inFlight, inFlight := true })

/-- R143: RECV, whole: NOT_CONNECTED, or the deframer armed for seven bytes, the old frame given up and no record yet. -/
def Obligations.RecvArmsTheDeframer : Prop :=
  ∀ s : State, s.pend = .none →
    (s.link = false → exec .recv s = .next (complete .notConnected 0 0 s)) ∧
    (s.link = true → ∃ t, exec .recv s = .next t ∧
      t = { s with rxValid := false, rxLen := 0, rxState := .hdr, rxNeed := 7, pend := .recv, rxBuf := t.rxBuf } ∧
      ∀ offset, readWindowByte t 1 offset = none)

/-- R24: LINK becomes 1 only by CONNECT, and 0 only by DISCONNECT or RESET. -/
def Obligations.LinkChangesOnlyByConnectDisconnectAndReset : Prop :=
  ∀ (i : Instr) (s t : State), exec i s = .next t →
    (s.link = false → t.link = true → i = .connect) ∧
    (s.link = true → t.link = false → i = .disconnect ∨ i = .reset)

/-! ### The deframer -/

/-- R144, away from the end of a phase: one byte of a receive is stored at offset RXLEN, RXLEN counts up, RXNEED down, and every other
byte of RXBUF and all other state stay. -/
def Obligations.AnswerByteStoresOneByte : Prop :=
  ∀ (b : Byte) (s : State), s.rxState ≠ .idle → s.rxQueue = [] → s.peerClosed = false → 2 ≤ s.rxNeed.toNat →
    s.rxLen.toNat < 65541 →
    ∃ t, exec (.answerByte b) s = .next t ∧
      t.rxLen.toNat = s.rxLen.toNat + 1 ∧ t.rxNeed.toNat = s.rxNeed.toNat - 1 ∧
      (∀ a, t.rxBuf.read? a = if a = s.rxLen.toNat then some b else s.rxBuf.read? a) ∧
      t = { s with rxBuf := t.rxBuf, rxLen := t.rxLen, rxNeed := t.rxNeed }

/-- R145 where a body follows: the seventh byte ends the header, and the length field, big-endian at offsets 4 and 5, says that L - 1 bytes
remain. -/
def Obligations.HeaderCompleteArmsTheBody : Prop :=
  ∀ (b hi lo : Byte) (s : State), s.rxState = .hdr → s.rxQueue = [] → s.peerClosed = false → s.rxNeed = 1 → s.rxLen = 6 →
    s.rxBuf.read? 4 = some hi → s.rxBuf.read? 5 = some lo → 2 ≤ hi.toNat * 256 + lo.toNat →
    ∃ t, exec (.answerByte b) s = .next t ∧ t.rxNeed.toNat = hi.toNat * 256 + lo.toNat - 1 ∧
      (∀ a, t.rxBuf.read? a = if a = 6 then some b else s.rxBuf.read? a) ∧
      t = { s with rxBuf := t.rxBuf, rxLen := 7, rxNeed := t.rxNeed, rxState := .body }

/-- R146 and R151 for RECV: the last byte of a body, or the seventh byte when the length field is 0 or 1, completes the frame, and RECV
completes with its length. -/
def Obligations.FrameCompleteEndsRecv : Prop :=
  ∀ (b : Byte) (s : State), s.pend = .recv → s.rxQueue = [] → s.peerClosed = false → s.rxNeed = 1 → s.rxLen.toNat < 65541 →
    (s.rxState = .body ∨
      (s.rxState = .hdr ∧ s.rxLen = 6 ∧ s.rxBuf.read? 4 = some 0#8 ∧
        (s.rxBuf.read? 5 = some 0#8 ∨ s.rxBuf.read? 5 = some 1#8))) →
    ∃ t, exec (.answerByte b) s = .next t ∧
      (∀ a, t.rxBuf.read? a = if a = s.rxLen.toNat then some b else s.rxBuf.read? a) ∧
      t = complete .ok 0 (BitVec.ofNat 32 (s.rxLen.toNat + 1))
        { s with rxBuf := t.rxBuf, rxLen := BitVec.ofNat 17 (s.rxLen.toNat + 1), rxNeed := 0, rxState := .idle,
                 rxValid := true, inFlight := false }

/-- R146 for READC and READH, stage 4 of R222: the last byte of a body, or the seventh byte when the length field is 0 or 1, completes the
frame, sets PEND to NONE and runs DECODE. -/
def Obligations.FrameCompleteOfAReadRunsDecode : Prop :=
  ∀ (b : Byte) (s : State), s.pend = .read → s.rxQueue = [] → s.peerClosed = false → s.rxNeed = 1 → s.rxLen.toNat < 65541 →
    (s.rxState = .body ∨
      (s.rxState = .hdr ∧ s.rxLen = 6 ∧ s.rxBuf.read? 4 = some 0#8 ∧
        (s.rxBuf.read? 5 = some 0#8 ∨ s.rxBuf.read? 5 = some 1#8))) →
    exec (.answerByte b) s = exec .decode
      { s with rxBuf := s.rxBuf.writeBytes s.rxLen.toNat [b], rxLen := BitVec.ofNat 17 (s.rxLen.toNat + 1), rxNeed := 0,
               rxState := .idle, rxValid := true, inFlight := false, pend := .none }

/-- R147: a `Closed` answer ends the pending command with STREAM_CLOSED, sub-code 0 in the header and 1 in the payload; RXLEN, the bytes
collected and the session stay. The closed indication is the collaborator's (R42), not the block's: AnswersWaitUntilAReceiveTakesThem
says what it becomes. -/
def Obligations.ClosedAnswerEndsTheReceive : Prop :=
  ∀ s : State, s.rxState ≠ .idle → s.rxQueue = [] → ∃ t, exec .answerClosed s = .next t ∧
    t = complete .streamClosed (if s.rxState = .hdr then 0 else 1) 0
      { s with rxState := .idle, rxNeed := 0, peerClosed := t.peerClosed }

/-- R148: a `Fault` answer ends the pending command with IO_ERROR(0); RXLEN, the bytes collected and the session stay. -/
def Obligations.FaultAnswerEndsTheReceive : Prop :=
  ∀ s : State, s.rxState ≠ .idle → s.rxQueue = [] →
    exec .answerFault s = .next (complete .ioError 0 0 { s with rxState := .idle, rxNeed := 0 })

/-- R149: the answer word of kind 0 changes nothing. That a step where no agent moves changes nothing is the model's choice (log entry
1): R149 says that a model gives no step there. -/
def Obligations.WithoutAnAnswerNothingChanges : Prop :=
  ∀ s : State, exec .answerNone s = .next s ∧ (s.inbox = [] → step s = .next s)

/-- R42, R75 and R252 as the model holds them (log entries 7 and 23): what the peer sends while no receive is armed waits, in order, and
changes nothing of the block; a receive then takes what waits first, a byte, a `Closed` or a `Fault`, with the effect of that answer; an
answer that arrives joins behind those that wait and gives the collaborator a turn. After a `Closed` no byte comes on the same
connection, and only a new connection, or the end of this one, is a fresh stream. -/
def Obligations.AnswersWaitUntilAReceiveTakesThem : Prop :=
  (∀ s : State, s.rxState = .idle →
    (s.peerClosed = false → ∀ b, exec (.answerByte b) s = .next { s with rxQueue := s.rxQueue ++ [.byte b] }) ∧
    exec .answerClosed s = .next { s with rxQueue := s.rxQueue ++ [.closed], peerClosed := true } ∧
    exec .answerFault s = .next { s with rxQueue := s.rxQueue ++ [.fault] }) ∧
  (∀ (s : State) (a : Answer) (i : Instr) (rest : List Answer) (es : List Event),
    (∃ b, (a, i) = (.byte b, .answerByte b)) ∨ (a, i) = (.closed, .answerClosed) ∨ (a, i) = (.fault, .answerFault) →
    s.rxState ≠ .idle → s.rxQueue = a :: rest → s.inbox = .collaborator :: es →
    ∀ t, exec i { s with rxQueue := [], peerClosed := false, inbox := es } = .next t →
      step s = .next { t with rxQueue := rest, peerClosed := s.peerClosed }) ∧
  (∀ (s : State) (es : List Event), s.inbox = .collaborator :: es →
    (s.peerClosed = false → ∀ b, exec (.answerByte b) { s with inbox := es } =
      step { s with rxQueue := s.rxQueue ++ [.byte b] }) ∧
    exec .answerClosed { s with inbox := es } = step { s with rxQueue := s.rxQueue ++ [.closed], peerClosed := true } ∧
    exec .answerFault { s with inbox := es } = step { s with rxQueue := s.rxQueue ++ [.fault] }) ∧
  (∀ (s : State) (b : Byte), s.peerClosed = true → s.rxState = .idle ∨ s.rxQueue = [] → exec (.answerByte b) s = .next s) ∧
  (∀ (i : Instr) (s t : State), s.peerClosed = true → exec i s = .next t →
    t.peerClosed = true ∨ i = .connect ∨ i = .disconnect ∨ i = .reset)

/-- R70 with R143 to R146: a RECV given exactly the bytes of a frame f completes at the last of them, with RXBUF[0:RXLEN] = f; after
fewer bytes it is still pending with the bytes so far in RXBUF. -/
def Obligations.ReceiveTakesExactlyTheDeclaredFrame : Prop :=
  ∀ (f : List Byte) (s : State), s.pend = .none → s.link = true → s.rxQueue = [] → s.peerClosed = false → 7 ≤ f.length →
    f.length = 7 + ((byteAt f 4).toNat * 256 + (byteAt f 5).toNat - 1) →
    ∃ t, exec .recv s = .next t ∧
      (∀ k, k < f.length → ∃ u, bytesArrive (f.take k) t = .next u ∧ u.pend = .recv ∧ u.rxValid = false ∧
        u.rxLen.toNat = k ∧ u.rxBuf.readBytes 0 k = some (f.take k) ∧ u.results = s.results) ∧
      (∃ u, bytesArrive f t = .next u ∧ u.rxBuf.readBytes 0 u.rxLen.toNat = some f ∧ u.rxQueue = [] ∧
        u = { s with rxState := .idle, rxNeed := 0, rxBuf := u.rxBuf, rxLen := BitVec.ofNat 17 f.length, rxValid := true,
                     inFlight := false, err := 0, results := s.results ++ [⟨.ok, 0, BitVec.ofNat 32 f.length⟩] })

/-- R150: the result of a receive does not depend on how the answers are grouped. A group of answers of any length, bytes with a `Closed`
or a `Fault` at any point, that stands in the collaborator's queue as a whole and is taken by as many turns of the collaborator, leaves
the state that the same answers leave when each arrives by itself: in every state, however far a receive has come, and with what a
finished receive leaves behind waiting for the next one. No byte comes after a `Closed` (R75). -/
def Obligations.ReceiveIsIndependentOfSegmentation : Prop :=
  ∀ (group : List Answer) (s : State), (s.rxState ≠ .idle → s.rxQueue = []) →
    (s.peerClosed = true → ∀ a ∈ group, a.isByte = false) →
    (group.Pairwise fun a b => a = .closed → b.isByte = false) →
    runSteps group.length
      { s with rxQueue := s.rxQueue ++ group
               peerClosed := s.peerClosed || decide (.closed ∈ group)
               inbox := List.replicate group.length .collaborator ++ s.inbox } =
      answersArrive group s

/-! ### LOADF and DECODE -/

/-- R170: LOADF, whole: a length over 65541 is ILLEGAL_COMMAND(2) and changes nothing else; any other puts the payload into RXBUF as a
complete frame. -/
def Obligations.LoadfPutsThePayloadIntoTheFrameBuffer : Prop :=
  ∀ (nbytes : BitVec 24) (payload : List Byte) (s : State), s.pend = .none →
    (65541 < nbytes.toNat → exec (.loadf nbytes payload) s = .next (complete .illegalCommand 2 0 s)) ∧
    (nbytes.toNat ≤ 65541 → payload.length = nbytes.toNat →
      ∃ t, exec (.loadf nbytes payload) s = .next t ∧
        t = complete .ok 0 (BitVec.ofNat 32 nbytes.toNat)
          { s with rxBuf := t.rxBuf, rxLen := BitVec.ofNat 17 nbytes.toNat, rxValid := true } ∧
        t.rxLen.toNat = nbytes.toNat ∧ t.rxBuf.readBytes 0 nbytes.toNat = some payload)

/-- R171 on a frame that passes the checks of R172, R174 and R176: every field, the data, TRAIL, and byte_count as the result. RXBUF,
RXLEN and RXVALID stay. -/
def Obligations.DecodeExtractsTheResponse : Prop :=
  ∀ (f : List Byte) (s : State), s.pend = .none → s.rxValid = true → s.rxBuf.readBytes 0 s.rxLen.toNat = some f →
    9 ≤ f.length → f.length = (byteAt f 4).toNat * 256 + (byteAt f 5).toNat + 6 → (byteAt f 8).toNat ≤ f.length - 9 →
    ∃ t, exec .decode s = .next t ∧
      t.rspTid.toNat = (byteAt f 0).toNat * 256 + (byteAt f 1).toNat ∧
      t.rspPid.toNat = (byteAt f 2).toNat * 256 + (byteAt f 3).toNat ∧
      t.rspLen.toNat = (byteAt f 4).toNat * 256 + (byteAt f 5).toNat ∧
      t.rspUnit = byteAt f 6 ∧ t.rspFc = byteAt f 7 ∧ t.rspBc = byteAt f 8 ∧
      t.rspData.readBytes 0 (byteAt f 8).toNat = some ((f.drop 9).take (byteAt f 8).toNat) ∧
      t.trail = decide (f.length - 9 > (byteAt f 8).toNat) ∧
      t = complete .ok 0 (BitVec.ofNat 32 (byteAt f 8).toNat)
        { s with rspTid := t.rspTid, rspPid := t.rspPid, rspLen := t.rspLen, rspUnit := t.rspUnit, rspFc := t.rspFc,
                 rspBc := t.rspBc, rspData := t.rspData, trail := t.trail, rspValid := true }

/-- R171's failures in their fixed order (R172 to R176), which R173's cannot reach: PRECONDITION(1) with nothing else changed; else
RSPVALID = 0 and TRAIL = 0, and of the Response registers only that the host cannot read them (log entry 3). -/
def Obligations.DecodeReportsTheFirstFailingCheck : Prop :=
  ∀ (f : List Byte) (s : State), s.pend = .none →
    (s.rxValid = false → exec .decode s = .next (complete .precondition 1 0 s)) ∧
    (s.rxValid = true → s.rxBuf.readBytes 0 s.rxLen.toNat = some f → ∀ (k : Kind) (sub : BitVec 4),
      some (k, sub) =
        (if f.length < 9 then some (.malformedFrame, 0)
         else if f.length ≠ (byteAt f 4).toNat * 256 + (byteAt f 5).toNat + 6 then some (.structuralMismatch, 0)
         else if f.length - 9 < (byteAt f 8).toNat then some (.structuralMismatch, 1)
         else none) →
      ∃ t, exec .decode s = .next t ∧
        t = complete k sub 0
          { s with rspTid := t.rspTid, rspPid := t.rspPid, rspLen := t.rspLen, rspUnit := t.rspUnit, rspFc := t.rspFc,
                   rspBc := t.rspBc, rspData := t.rspData, free := t.free, trail := false, rspValid := false } ∧
        (∀ number ∈ [7, 8, 9], readStatus t number = none) ∧ ∀ offset, readWindowByte t 2 offset = none)

/-- R180: the block's own request frame, loaded and decoded, gives back transaction id, unit id and function code exactly when
start_address is at most 1023, and STRUCTURAL_MISMATCH(1) above. -/
def Obligations.EchoedRequestRoundTrip : Prop :=
  ∀ s : State, s.pend = .none →
    ∃ t, exec (.loadf 12 (txbuf s)) s = .next t ∧ ∃ u, exec .decode t = .next u ∧
      if s.reqAddr.toNat ≤ 1023 then
        u.rspValid = true ∧ u.rspTid = s.reqTid ∧ u.rspPid = 0 ∧ u.rspLen = 6 ∧ u.rspUnit = s.reqUnit ∧
        u.rspFc = s.reqFc ∧ u.rspBc.toNat = s.reqAddr.toNat / 256 ∧
        u.trail = decide (s.reqAddr.toNat / 256 < 3) ∧
        u.results = t.results ++ [⟨.ok, 0, BitVec.ofNat 32 (s.reqAddr.toNat / 256)⟩]
      else u.rspValid = false ∧ u.results = t.results ++ [⟨.structuralMismatch, 1, 0⟩]

/-- R171, flags written: DECODE does not consume the frame: decoding again what decoded gives the same Response, and only the second
record is new. -/
def Obligations.DecodeCanBeRepeated : Prop :=
  ∀ s t : State, s.pend = .none → exec .decode s = .next t → t.rspValid = true → s.rxValid = true →
    exec .decode t = .next { t with results := t.results ++ [⟨.ok, 0, BitVec.ofNat 32 t.rspBc.toNat⟩] }

/-! ### VALUES and VALUE -/

/-- R200 with R191 and R15, for the eight forms: PRECONDITION(2) without a Response; else one VAL word for each whole chunk, in index order,
and their number as the result. The raw value of a chunk is the sum of its bytes, the first one weighing most. The Response and all other
state stay. -/
def Obligations.ValuesDeliverEveryWholeChunkInOrder : Prop :=
  ∀ (i : Instr) (ty : NumType) (w : Nat) (s : State) (d : List Byte),
    (i, ty, w) ∈ [(Instr.valuesInt16, NumType.int16, 2), (.valuesUint16, .uint16, 2), (.valuesInt32, .int32, 4),
      (.valuesUint32, .uint32, 4), (.valuesFloat32, .float32, 4), (.valuesInt64, .int64, 8), (.valuesUint64, .uint64, 8),
      (.valuesFloat64, .float64, 8)] →
    s.pend = .none →
    (s.rspValid = false → exec i s = .next (complete .precondition 2 0 s)) ∧
    (s.rspValid = true → s.rspData.readBytes 0 s.rspBc.toNat = some d →
      ∃ vals : List Val, exec i s = .next (complete .ok 0 (BitVec.ofNat 32 (s.rspBc.toNat / w))
          { s with values := s.values ++ vals }) ∧
        vals.length = s.rspBc.toNat / w ∧
        ∀ k, k < s.rspBc.toNat / w → vals[k]? = some (valWord ty
          ((List.range w).map fun j => (byteAt d (k * w + j)).toNat * 256 ^ (w - 1 - j)).sum))

/-- R201 with R15, for the eight forms: PRECONDITION(2), then DECODE_RANGE(0) for an index that names no whole chunk, else the one VAL word
of the chunk, whose raw value is the sum of its bytes, the first one weighing most. -/
def Obligations.ValueDeliversTheIndexedChunk : Prop :=
  ∀ (index : Half) (i : Instr) (ty : NumType) (w : Nat) (s : State) (d : List Byte),
    (i, ty, w) ∈ [(Instr.valueInt16 index, NumType.int16, 2), (.valueUint16 index, .uint16, 2),
      (.valueInt32 index, .int32, 4), (.valueUint32 index, .uint32, 4), (.valueFloat32 index, .float32, 4),
      (.valueInt64 index, .int64, 8), (.valueUint64 index, .uint64, 8), (.valueFloat64 index, .float64, 8)] →
    s.pend = .none →
    (s.rspValid = false → exec i s = .next (complete .precondition 2 0 s)) ∧
    (s.rspValid = true → s.rspBc.toNat / w ≤ index.toNat → exec i s = .next (complete .decodeRange 0 0 s)) ∧
    (s.rspValid = true → index.toNat < s.rspBc.toNat / w → s.rspData.readBytes 0 s.rspBc.toNat = some d →
      exec i s = .next (complete .ok 0 1
        { s with values := s.values ++ [valWord ty
          ((List.range w).map fun j => (byteAt d (index.toNat * w + j)).toNat * 256 ^ (w - 1 - j)).sum] }))

/-- R192 to R199 with R206: the VAL word of every raw value that fits a type's width, as the number it stands for: sign-extended for the
signed integers, the value itself for the unsigned, the bare pattern for the floats. -/
def Obligations.ValWordCarriesTheRawValue : Prop :=
  (∀ r, r < 65536 → (valWord .int16 r).toInt = (if r ≤ 32767 then (r : Int) else r - 65536) ∧
    (valWord .uint16 r).toNat = r) ∧
  (∀ r, r < 4294967296 → (valWord .int32 r).toInt = (if r ≤ 2147483647 then (r : Int) else r - 4294967296) ∧
    (valWord .uint32 r).toNat = r ∧ (valWord .float32 r).toNat = r) ∧
  (∀ r, r < 18446744073709551616 →
    (valWord .int64 r).toInt = (if r < 9223372036854775808 then (r : Int) else r - 18446744073709551616) ∧
    (valWord .uint64 r).toNat = r ∧ (valWord .float64 r).toNat = r)

/-- R206: what a VAL word denotes to the host is what the chunk denotes under the command's type, for every type. For the two float types
both sides go by the tables of R203 and R204, which the spec marks as general knowledge (log entry 24, PRESUMED). -/
def Obligations.ValWordDenotesWhatTheChunkDenotes : Prop :=
  ∀ (ty : NumType) (chunk : List Byte), chunk.length = typeWidth ty →
    denoteVal ty (valWord ty (beNat chunk)) = denoteRaw ty (beNat chunk)

/-- R15 and R63: one byte has its own value, and a value of twice the width is the first value of the width times 256^w plus the second, both
read unsigned. -/
def Obligations.WiderChunkIsTwoNarrowChunksBigEndian : Prop :=
  (∀ b : Byte, beNat [b] = b.toNat) ∧
  ∀ (d : List Byte) (o w : Nat), o + 2 * w ≤ d.length →
    beNat ((d.drop o).take (2 * w)) =
      beNat ((d.drop o).take w) * 256 ^ w + beNat ((d.drop (o + w)).take w)

/-- R201, last part: VALUE delivers the element of what VALUES delivers for the same type. -/
def Obligations.ValueIsTheElementOfValues : Prop :=
  ∀ (index : Half) (i j : Instr) (s t : State) (vals : List Val),
    (i, j) ∈ [(Instr.valuesInt16, Instr.valueInt16 index), (.valuesUint16, .valueUint16 index),
      (.valuesInt32, .valueInt32 index), (.valuesUint32, .valueUint32 index), (.valuesFloat32, .valueFloat32 index),
      (.valuesInt64, .valueInt64 index), (.valuesUint64, .valueUint64 index), (.valuesFloat64, .valueFloat64 index)] →
    s.pend = .none → s.rspValid = true → exec i s = .next t → t.values = s.values ++ vals →
    ∃ u, exec j s = .next u ∧ u.values = s.values ++ vals[index.toNat]?.toList

/-! ### READC and READH -/

/-- R222, stages 1 to 3, with R220 and R221: VALIDATION ends the command with REQVALID = 0; NOT_CONNECTED leaves the Request built; else the
request is sent and the deframer armed, with PEND = READ and no record. -/
def Obligations.ReadBuildsSendsAndArms : Prop :=
  ∀ (i : Instr) (fc : Byte) (o : BuildOperands) (s : State),
    (i, fc) ∈ [(Instr.readc o, 0x01#8), (.readh o, 0x03#8)] → s.pend = .none →
    ∃ t, exec i s = .next t ∧
      match buildFailure s.enforceMaxima fc o with
      | some sub =>
        t = complete .validation sub 0
          { s with reqUnit := t.reqUnit, reqTid := t.reqTid, reqFc := t.reqFc, reqAddr := t.reqAddr, reqQty := t.reqQty,
                   reqValid := false, free := t.free }
      | none =>
        if s.link = false then
          t = complete .notConnected 0 0
            { s with reqUnit := o.unit, reqTid := o.tid, reqFc := fc, reqAddr := BitVec.ofNat 16 (o.start.toNat - 1),
                     reqQty := o.count, reqValid := true }
        else
          t = { s with reqUnit := o.unit, reqTid := o.tid, reqFc := fc, reqAddr := BitVec.ofNat 16 (o.start.toNat - 1),
                       reqQty := o.count, reqValid := true, seqErr := s.seqErr || s.inFlight, inFlight := true,
                       transport := s.transport ++ [.push (txbuf t)], rxValid := false, rxLen := 0, rxBuf := t.rxBuf,
                       rxState := .hdr, rxNeed := 7, pend := .read } ∧
          ∀ offset, readWindowByte t 1 offset = none

/-- R109 and R222: READC and READH leave the state that BUILD, SEND and RECV leave, but for PEND and for the completions of the three. -/
def Obligations.ReadEqualsBuildSendRecv : Prop :=
  ∀ (i : Instr) (fc : Byte) (o : BuildOperands) (s : State),
    (i, fc) ∈ [(Instr.readc o, 0x01#8), (.readh o, 0x03#8)] → s.pend = .none → s.link = true →
    buildFailure s.enforceMaxima fc o = none →
    ∃ t a b c, exec i s = .next t ∧ exec (.build fc o) s = .next a ∧ exec .send a = .next b ∧ exec .recv b = .next c ∧
      t = { c with pend := .read, err := s.err, results := s.results }

/-- R222, whole: a READC or READH on a Connected session, given exactly the bytes of a frame, ends as DECODE of that frame ends, with the one
record of DECODE. -/
def Obligations.ReadTransactionEndsAsDecodeOfTheReceivedFrame : Prop :=
  ∀ (i : Instr) (fc : Byte) (o : BuildOperands) (f : List Byte) (s : State),
    (i, fc) ∈ [(Instr.readc o, 0x01#8), (.readh o, 0x03#8)] → s.pend = .none → s.link = true → s.rxQueue = [] →
    s.peerClosed = false → buildFailure s.enforceMaxima fc o = none → 7 ≤ f.length →
    f.length = 7 + ((byteAt f 4).toNat * 256 + (byteAt f 5).toNat - 1) →
    ∃ t v, exec i s = .next t ∧ bytesArrive f t = exec .decode v ∧
      v.rxBuf.readBytes 0 v.rxLen.toNat = some f ∧
      v = { t with rxBuf := v.rxBuf, rxLen := BitVec.ofNat 17 f.length, rxNeed := 0, rxState := .idle, rxValid := true,
                   inFlight := false, pend := .none }

/-! ### The wire formats -/

/-- R92: a request frame of either function is the twelve bytes of its pattern, in one push on the TX stream of a Connected session, and
nothing on a Disconnected one (log entry 8); nothing else changes. -/
def Obligations.RequestFramePushesItsTwelveBytes : Prop :=
  ∀ (i : Instr) (fc : Byte) (tid : Half) (unit : Byte) (addr qty : Half) (s : State),
    (i, fc) ∈ [(Instr.frameReqReadCoils tid unit addr qty, 0x01#8),
      (.frameReqReadHoldingRegisters tid unit addr qty, 0x03#8)] →
    exec i s = .next
      (if s.link = true then
        { s with transport := s.transport ++ [.push
          [tid.extractLsb' 8 8, tid.extractLsb' 0 8, 0x00#8, 0x00#8, 0x00#8, 0x06#8, unit, fc, addr.extractLsb' 8 8,
            addr.extractLsb' 0 8, qty.extractLsb' 8 8, qty.extractLsb' 0 8]] }
       else s)

/-- SEND pushes nothing but such a frame (R92): its push is the one of the wire row that the Request registers name, for either
function. That a wire row is an instruction with that push is the model's reading of the table (log entry 8, DEDUCED). -/
def Obligations.SendTransmitsTheWireRowOfItsRequest : Prop :=
  ∀ (i : Instr) (s t u : State), s.pend = .none → s.reqValid = true → s.link = true →
    i = (if s.reqFc = 0x01#8 then .frameReqReadCoils s.reqTid s.reqUnit s.reqAddr s.reqQty
         else .frameReqReadHoldingRegisters s.reqTid s.reqUnit s.reqAddr s.reqQty) →
    supportedFc s.reqFc = true → exec .send s = .next t → exec i s = .next u →
    t.transport = u.transport ∧ txStream t = txStream s ++ txbuf s

/-- R93 with R144 to R146: the nine bytes of the start of a response frame arrive one after the other, in wire order, in every state (log
entry 9). While nothing is armed they wait. For a receive that has just been armed they are stored from offset 0: with a length field of
4 and above, length - 3 bytes remain to be read; below, the frame ends at byte 7, 8 or 9, RECV completes or READC and READH go on as
DECODE, and the bytes behind it wait. In a body that needs ten bytes or more they are stored behind what it holds. After a `Closed` they
do not come (log entry 23). -/
def Obligations.ResponseStartIsReceived : Prop :=
  ∀ (tid pid len : Half) (unit fc bc : Byte) (s : State) (f : List Byte),
    f = [tid.extractLsb' 8 8, tid.extractLsb' 0 8, pid.extractLsb' 8 8, pid.extractLsb' 0 8, len.extractLsb' 8 8,
      len.extractLsb' 0 8, unit, fc, bc] →
    exec (.frameRsp tid pid len unit fc bc) s = answersArrive (f.map Answer.byte) s ∧
    (s.peerClosed = true → s.rxState = .idle ∨ s.rxQueue = [] → exec (.frameRsp tid pid len unit fc bc) s = .next s) ∧
    (s.peerClosed = false →
      (s.rxState = .idle → exec (.frameRsp tid pid len unit fc bc) s =
        .next { s with rxQueue := s.rxQueue ++ f.map Answer.byte }) ∧
      (s.rxQueue = [] → s.rxState = .hdr → s.rxNeed = 7 → s.rxLen = 0 →
        (4 ≤ len.toNat →
          ∃ t, exec (.frameRsp tid pid len unit fc bc) s = .next t ∧ t.rxBuf.readBytes 0 9 = some f ∧
            t = { s with rxBuf := t.rxBuf, rxLen := 9, rxState := .body, rxNeed := BitVec.ofNat 16 (len.toNat - 3) }) ∧
        (∀ n, len.toNat ≤ 3 → n = 7 + (len.toNat - 1) →
          ∃ v, v.rxBuf.readBytes 0 n = some (f.take n) ∧
            v = { s with rxBuf := v.rxBuf, rxLen := BitVec.ofNat 17 n, rxNeed := 0, rxState := .idle, rxValid := true,
                         inFlight := false, pend := .none, rxQueue := (f.drop n).map Answer.byte } ∧
            (s.pend = .recv → exec (.frameRsp tid pid len unit fc bc) s = .next (complete .ok 0 (BitVec.ofNat 32 n) v)) ∧
            (s.pend = .read → exec (.frameRsp tid pid len unit fc bc) s = exec .decode v))) ∧
      (s.rxQueue = [] → s.rxState = .body → 10 ≤ s.rxNeed.toNat → s.rxLen.toNat + 9 ≤ 65541 →
        ∃ t, exec (.frameRsp tid pid len unit fc bc) s = .next t ∧
          t.rxLen.toNat = s.rxLen.toNat + 9 ∧ t.rxNeed.toNat = s.rxNeed.toNat - 9 ∧
          (∀ a, t.rxBuf.read? a =
            if s.rxLen.toNat ≤ a ∧ a < s.rxLen.toNat + 9 then f[a - s.rxLen.toNat]? else s.rxBuf.read? a) ∧
          t = { s with rxBuf := t.rxBuf, rxLen := t.rxLen, rxNeed := t.rxNeed }))

/-! ### The command port -/

/-- While a receive is pending every command but DISCONNECT and RESET is held (R160). R160 says that the word is not taken and that the host
waits; that the meaning of a held command, asked for by itself, changes nothing is the model's choice (log entry 11). -/
def Obligations.HeldCommandsChangeNothing : Prop :=
  ∀ (i : Instr) (s : State), onCommandPort i = true → i ≠ .disconnect → i ≠ .reset → s.pend ≠ .none → exec i s = .next s

/-- R160 with R103: while a receive is pending a word that is not exactly a legal DISCONNECT or RESET, legal or not, goes on waiting, if no
word that the port accepts waits before it. That several words may stand on the port, and that a new one joins behind them, is the
model's choice (log entry 11). -/
def Obligations.HeldWordsWaitLegalOrNot : Prop :=
  ∀ (c : Command) (s : State) (es : List Event), s.pend ≠ .none → s.inbox = .arrive (.command c) :: es →
    (∀ d ∈ s.waiting ++ [c], d.cw ≠ 0x110000000000000000000000#96 ∧ d.cw ≠ 0x010000000000000000000000#96) →
    step s = .next { s with inbox := es, waiting := s.waiting ++ [c] }

/-- R103 and R250: a word with an unassigned opcode, and a word with a reserved bit set, each by its format, complete with ILLEGAL_COMMAND
and change nothing but ERR and ERRLOG. -/
def Obligations.IllegalWordsCompleteWithIllegalCommand : Prop :=
  ∀ (c : Command) (op : Nat) (s : State) (es : List Event), s.pend = .none → s.waiting = [] →
    s.inbox = .arrive (.command c) :: es → op = c.cw.toNat / 2 ^ 88 →
    (op ∉ [0x01, 0x08, 0x10, 0x11, 0x12, 0x13, 0x20, 0x21, 0x28, 0x29, 0x30, 0x31] →
      step s = .next (complete .illegalCommand 0 0 { s with inbox := es })) ∧
    ((op ∈ [0x01, 0x10, 0x11, 0x12, 0x13, 0x21] ∧ c.cw.extractLsb' 0 88 ≠ 0#88) ∨
     (op ∈ [0x08, 0x30, 0x31] ∧ (c.cw.extractLsb' 82 6 ≠ 0#6 ∨ c.cw.extractLsb' 0 8 ≠ 0#8)) ∨
     (op ∈ [0x30, 0x31] ∧ c.cw.extractLsb' 72 8 ≠ 0#8) ∨
     (op ∈ [0x28, 0x29] ∧ (c.cw.extractLsb' 83 5 ≠ 0#5 ∨ c.cw.extractLsb' 0 64 ≠ 0#64)) ∨
     (op = 0x28 ∧ c.cw.extractLsb' 64 16 ≠ 0#16) ∨
     (op = 0x20 ∧ c.cw.extractLsb' 24 64 ≠ 0#64) →
      step s = .next (complete .illegalCommand 1 0 { s with inbox := es }))

/-- A step runs the decoded instruction: a command word taken from the port, presented now or waiting first (R160), while nothing is
pending; and every word of another port. That the moves stand in a list and the port has a turn of its own is log entry 1, that words
stand on the port in order is log entry 11, and that the words of the streams run as instructions is log entries 8 and 9. -/
def Obligations.StepRunsTheDecodedInstruction : Prop :=
  (∀ (c : Command) (i : Instr) (s : State) (es : List Event), decode (.command c) = .ok i → s.pend = .none →
    (s.inbox = .arrive (.command c) :: es → s.waiting = [] → step s = exec i { s with inbox := es }) ∧
    (∀ cs, s.inbox = .host :: es → s.waiting = c :: cs → step s = exec i { s with inbox := es, waiting := cs })) ∧
  (∀ (p : PortWord) (i : Instr) (s : State) (es : List Event), (∀ c, p ≠ .command c) → decode p = .ok i →
    s.inbox = .arrive p :: es → step s = exec i { s with inbox := es })

/-- A DISCONNECT or RESET is taken while a receive is pending (R160, R161, R230). That it overtakes the words that stand on the port before
it is the model's order of several words (log entry 11, unsafe). -/
def Obligations.DisconnectAndResetAreTakenWhilePending : Prop :=
  ∀ (c : Command) (i : Instr) (s : State) (es : List Event), s.pend ≠ .none →
    (c.cw, i) ∈ [(0x110000000000000000000000#96, Instr.disconnect), (0x010000000000000000000000#96, .reset)] →
    (∀ d ∈ s.waiting, d.cw ≠ 0x110000000000000000000000#96 ∧ d.cw ≠ 0x010000000000000000000000#96) →
    s.inbox = .arrive (.command c) :: es → step s = exec i { s with inbox := es }

/-- The table's words run: what the decoder reads from a table word is what the next step runs when the word is placed where it is
fetched. The placing is the model's (log entry 1), and so is the reading of a table word by its width (log entry 16). -/
def Obligations.PlacedTableWordRunsItsInstruction : Prop :=
  ∀ (nbits w : Nat) (i : Instr) (s : State), s.pend = .none → decodeTableWord nbits w = some i →
    step (s.withFetchWord nbits w) = exec i s

/-! ### Encoding -/

/-- R92, R93, R98 to R102 and R107: decoding the encoding of a well-formed instruction gives it back, for every instruction and every
operand. -/
def Obligations.DecodeOfEncodeIsTheInstruction : Prop :=
  ∀ i : Instr, i.wf = true → decode (encode i) = .ok i

/-- Every legal word has one meaning, and no bit of it is dropped: the instruction that a command word decodes to is well formed and
encodes to that word, with the payload bytes it took; likewise for the words of the other ports. -/
def Obligations.EncodeOfDecodeIsTheWord : Prop :=
  ∀ (p : PortWord) (i : Instr), decode p = .ok i → i.wf = true ∧
    match p, encode i with
    | .command c, .command d => d.cw = c.cw ∧ d.payload <+: c.payload
    | .command _, _ => False
    | _, q => q = p

/-- Words written out from the tables of R92 to R102 and R107, one for each format, and two illegal ones. -/
def Obligations.WrittenOutWordsDecode : Prop :=
  decode (.command ⟨0x130000000000000000000000#96, []⟩) = .ok .recv ∧
  decode (.command ⟨0x080301111234000014002500#96, []⟩) = .ok (.build 1 ⟨true, true, 17, 0x1234, 20, 37⟩) ∧
  decode (.command ⟨0x310300010001000001000400#96, []⟩) = .ok (.readh ⟨true, true, 1, 1, 1, 4⟩) ∧
  decode (.command ⟨0x290200010000000000000000#96, []⟩) = .ok (.valueInt32 1) ∧
  decode (.command ⟨0x200000000000000000000002#96, [0xAB, 0xCD]⟩) = .ok (.loadf 2 [0xAB, 0xCD]) ∧
  decode (.request 0x000100000006010300000004#96) = .ok (.frameReqReadHoldingRegisters 1 1 0 4) ∧
  decode (.answer 0x1C8#10) = .ok (.answerByte 0xC8) ∧
  decode (.command ⟨0xFFFFFFFFFFFFFFFFFFFFFFFF#96, []⟩) = .error .unassignedOpcode ∧
  decode (.command ⟨0x310303010001000001000400#96, []⟩) = .error .reservedBit

/-! ### Invariants and whole-machine rules -/

/-- R44 at reset, with what the invariants hold of the buffers (R30, R33, R34) and of the waiting answers (R75). -/
def Obligations.ResetSatisfiesTheInvariants : Prop := Inv State.reset

/-- R44, R75 and what R30, R33 and R34 say of the buffers: every step keeps the invariants, from every state that has them, whatever agent
moves and whatever it presents. -/
def Obligations.EveryStepKeepsTheInvariants : Prop :=
  ∀ s t : State, Inv s → step s = .next t → Inv t

/-- The faults of the model arise in no state that has the invariants of R44 (log entry 2). -/
def Obligations.InvariantStatesNeverFault : Prop :=
  ∀ (s : State) (r : Fault), Inv s → step s ≠ .fault r

/-- The canonical form of the buffers (log entry 2) is kept by every step, from every state that has it. -/
def Obligations.EveryStepKeepsTheBuffersCanonical : Prop :=
  ∀ s t : State, buffersWf s → step s = .next t → buffersWf t

/-- R241, R248 and R173: no record ever says CONNECTION_FAILURE, DECODE_ERROR or MALFORMED_FRAME(1). That the records accumulate, so that the
result port only grows, is the model's choice (log entry 12). -/
def Obligations.ResultsOnlyGrowAndUnreachableKindsNeverAppear : Prop :=
  ∀ s t : State, step s = .next t → ∃ new, t.results = s.results ++ new ∧
    ∀ r ∈ new, r.kind ≠ .connectionFailure ∧ r.kind ≠ .decodeError ∧ ¬(r.kind = .malformedFrame ∧ r.sub = 1)

/-- R36 and R26: the bits of ERRLOG and SEQERR are sticky: no instruction but RESET clears one. -/
def Obligations.OnlyResetClearsStickyBits : Prop :=
  ∀ (i : Instr) (s t : State), i ≠ .reset → exec i s = .next t →
    (∀ k < 12, s.errLog.getLsbD k = true → t.errLog.getLsbD k = true) ∧ (s.seqErr = true → t.seqErr = true)

/-- R21, R22 and R32: the Request group is written only by BUILD, READC, READH and RESET; the Response group only by DECODE, by the bytes that
complete a READC or READH, and by RESET. Such a byte is one that arrives, by itself or in the start of a response, or one that waits
already when a `Closed` or a `Fault` arrives behind it. -/
def Obligations.RegisterGroupsHaveTheirWritersOnly : Prop :=
  ∀ (i : Instr) (s t : State), exec i s = .next t → i ≠ .reset →
    ((∀ fc o, i ≠ .build fc o) → (∀ o, i ≠ .readc o ∧ i ≠ .readh o) →
      t.reqUnit = s.reqUnit ∧ t.reqTid = s.reqTid ∧ t.reqFc = s.reqFc ∧ t.reqAddr = s.reqAddr ∧ t.reqQty = s.reqQty ∧
      t.reqValid = s.reqValid) ∧
    (i ≠ .decode →
      (s.pend = .read →
        (∀ b, i ≠ .answerByte b) ∧ (∀ tid pid len unit fc bc, i ≠ .frameRsp tid pid len unit fc bc) ∧
        (i = .answerClosed ∨ i = .answerFault → ∀ b, s.rxQueue.head? ≠ some (.byte b))) →
      t.rspTid = s.rspTid ∧ t.rspPid = s.rspPid ∧ t.rspLen = s.rspLen ∧ t.rspUnit = s.rspUnit ∧ t.rspFc = s.rspFc ∧
      t.rspBc = s.rspBc ∧ t.rspData = s.rspData ∧ t.rspValid = s.rspValid ∧ t.trail = s.trail)

/-- R92, last sentence: whatever a command does, what it adds to the TX stream is nothing or one request frame for function 0x01 or 0x03, if
the Request registers hold a Request where they are valid (R44, item 4). -/
def Obligations.CommandsEmitOnlyRequestFrames : Prop :=
  ∀ (i : Instr) (s t : State), onCommandPort i = true → (s.reqValid = true → supportedFc s.reqFc = true) →
    exec i s = .next t →
    txStream t = txStream s ∨
      ∃ (tid : Half) (unit fc : Byte) (addr qty : Half), (fc = 0x01#8 ∨ fc = 0x03#8) ∧
        txStream t = txStream s ++
          [tid.extractLsb' 8 8, tid.extractLsb' 0 8, 0x00#8, 0x00#8, 0x00#8, 0x06#8, unit, fc, addr.extractLsb' 8 8,
            addr.extractLsb' 0 8, qty.extractLsb' 8 8, qty.extractLsb' 0 8]
end

