-- ==== Sys2Proof/Laws/Encode.lean ====
section
/-! SUPPORT. What each field of an encoded word reads as: one lemma for each field of each format. -/

namespace Sys2Proof

/-! ### encodeN -/

@[simp] theorem encodeN_op (op : Byte) : (encodeN op).extractLsb' 88 8 = op := by
  change BitVec.extractLsb' (n := 8+88) 88 8 _ = _
  simp (disch := omega) only [encodeN, BitVec.extractLsb'_append_eq_of_le, Nat.reduceSub, BitVec.extractLsb'_eq_self]

@[simp] theorem encodeN_reserved (op : Byte) : (encodeN op).extractLsb' 0 88 = 0#88 := by
  change BitVec.extractLsb' (n := 8+88) 0 88 _ = _
  simp (disch := omega) only [encodeN, BitVec.extractLsb'_append_eq_of_add_le, BitVec.extractLsb'_eq_self]

/-! ### encodeB -/

@[simp] theorem encodeB_op (op fc : Byte) (o : BuildOperands) : (encodeB op fc o).extractLsb' 88 8 = op := by
  change BitVec.extractLsb' (n := 8+6+1+1+8+8+16+24+16+8) 88 8 _ = _
  simp (disch := omega) only [encodeB, BitVec.extractLsb'_append_eq_of_le, Nat.reduceSub, BitVec.extractLsb'_eq_self]

@[simp] theorem encodeB_reservedHigh (op fc : Byte) (o : BuildOperands) : (encodeB op fc o).extractLsb' 82 6 = 0#6 := by
  change BitVec.extractLsb' (n := 8+6+1+1+8+8+16+24+16+8) 82 6 _ = _
  simp (disch := omega) only [encodeB, BitVec.extractLsb'_append_eq_of_le, BitVec.extractLsb'_append_eq_of_add_le, Nat.reduceSub,
    BitVec.extractLsb'_eq_self]

@[simp] theorem encodeB_fc (op fc : Byte) (o : BuildOperands) : (encodeB op fc o).extractLsb' 72 8 = fc := by
  change BitVec.extractLsb' (n := 8+6+1+1+8+8+16+24+16+8) 72 8 _ = _
  simp (disch := omega) only [encodeB, BitVec.extractLsb'_append_eq_of_le, BitVec.extractLsb'_append_eq_of_add_le, Nat.reduceSub,
    BitVec.extractLsb'_eq_self]

@[simp] theorem encodeB_unit (op fc : Byte) (o : BuildOperands) : (encodeB op fc o).extractLsb' 64 8 = o.unit := by
  change BitVec.extractLsb' (n := 8+6+1+1+8+8+16+24+16+8) 64 8 _ = _
  simp (disch := omega) only [encodeB, BitVec.extractLsb'_append_eq_of_le, BitVec.extractLsb'_append_eq_of_add_le, Nat.reduceSub,
    BitVec.extractLsb'_eq_self]

@[simp] theorem encodeB_tid (op fc : Byte) (o : BuildOperands) : (encodeB op fc o).extractLsb' 48 16 = o.tid := by
  change BitVec.extractLsb' (n := 8+6+1+1+8+8+16+24+16+8) 48 16 _ = _
  simp (disch := omega) only [encodeB, BitVec.extractLsb'_append_eq_of_le, BitVec.extractLsb'_append_eq_of_add_le, Nat.reduceSub,
    BitVec.extractLsb'_eq_self]

@[simp] theorem encodeB_start (op fc : Byte) (o : BuildOperands) : (encodeB op fc o).extractLsb' 24 24 = o.start := by
  change BitVec.extractLsb' (n := 8+6+1+1+8+8+16+24+16+8) 24 24 _ = _
  simp (disch := omega) only [encodeB, BitVec.extractLsb'_append_eq_of_le, BitVec.extractLsb'_append_eq_of_add_le, Nat.reduceSub,
    BitVec.extractLsb'_eq_self]

@[simp] theorem encodeB_count (op fc : Byte) (o : BuildOperands) : (encodeB op fc o).extractLsb' 8 16 = o.count := by
  change BitVec.extractLsb' (n := 8+6+1+1+8+8+16+24+16+8) 8 16 _ = _
  simp (disch := omega) only [encodeB, BitVec.extractLsb'_append_eq_of_le, BitVec.extractLsb'_append_eq_of_add_le, Nat.reduceSub,
    BitVec.extractLsb'_eq_self]

@[simp] theorem encodeB_reservedLow (op fc : Byte) (o : BuildOperands) : (encodeB op fc o).extractLsb' 0 8 = 0#8 := by
  change BitVec.extractLsb' (n := 8+6+1+1+8+8+16+24+16+8) 0 8 _ = _
  simp (disch := omega) only [encodeB, BitVec.extractLsb'_append_eq_of_add_le, BitVec.extractLsb'_eq_self]

@[simp] theorem encodeB_pc (op fc : Byte) (o : BuildOperands) : (encodeB op fc o)[81] = o.pc := by
  rw [← BitVec.getLsbD_eq_getElem]
  change BitVec.getLsbD (w := 8+6+1+1+8+8+16+24+16+8) _ 81 = _
  simp only [encodeB, BitVec.getLsbD_append]
  simp

@[simp] theorem encodeB_ps (op fc : Byte) (o : BuildOperands) : (encodeB op fc o)[80] = o.ps := by
  rw [← BitVec.getLsbD_eq_getElem]
  change BitVec.getLsbD (w := 8+6+1+1+8+8+16+24+16+8) _ 80 = _
  simp only [encodeB, BitVec.getLsbD_append]
  simp

/-! ### encodeV -/

@[simp] theorem encodeV_op (op : Byte) (ty : BitVec 3) (index : Half) : (encodeV op ty index).extractLsb' 88 8 = op := by
  change BitVec.extractLsb' (n := 8+5+3+16+64) 88 8 _ = _
  simp (disch := omega) only [encodeV, BitVec.extractLsb'_append_eq_of_le, Nat.reduceSub, BitVec.extractLsb'_eq_self]

@[simp] theorem encodeV_reservedHigh (op : Byte) (ty : BitVec 3) (index : Half) : (encodeV op ty index).extractLsb' 83 5 = 0#5 := by
  change BitVec.extractLsb' (n := 8+5+3+16+64) 83 5 _ = _
  simp (disch := omega) only [encodeV, BitVec.extractLsb'_append_eq_of_le, BitVec.extractLsb'_append_eq_of_add_le, Nat.reduceSub,
    BitVec.extractLsb'_eq_self]

@[simp] theorem encodeV_type (op : Byte) (ty : BitVec 3) (index : Half) : (encodeV op ty index).extractLsb' 80 3 = ty := by
  change BitVec.extractLsb' (n := 8+5+3+16+64) 80 3 _ = _
  simp (disch := omega) only [encodeV, BitVec.extractLsb'_append_eq_of_le, BitVec.extractLsb'_append_eq_of_add_le, Nat.reduceSub,
    BitVec.extractLsb'_eq_self]

@[simp] theorem encodeV_index (op : Byte) (ty : BitVec 3) (index : Half) : (encodeV op ty index).extractLsb' 64 16 = index := by
  change BitVec.extractLsb' (n := 8+5+3+16+64) 64 16 _ = _
  simp (disch := omega) only [encodeV, BitVec.extractLsb'_append_eq_of_le, BitVec.extractLsb'_append_eq_of_add_le, Nat.reduceSub,
    BitVec.extractLsb'_eq_self]

@[simp] theorem encodeV_reservedLow (op : Byte) (ty : BitVec 3) (index : Half) : (encodeV op ty index).extractLsb' 0 64 = 0#64 := by
  change BitVec.extractLsb' (n := 8+5+3+16+64) 0 64 _ = _
  simp (disch := omega) only [encodeV, BitVec.extractLsb'_append_eq_of_add_le, BitVec.extractLsb'_eq_self]

/-! ### encodeL -/

@[simp] theorem encodeL_op (op : Byte) (nbytes : BitVec 24) : (encodeL op nbytes).extractLsb' 88 8 = op := by
  change BitVec.extractLsb' (n := 8+64+24) 88 8 _ = _
  simp (disch := omega) only [encodeL, BitVec.extractLsb'_append_eq_of_le, Nat.reduceSub, BitVec.extractLsb'_eq_self]

@[simp] theorem encodeL_reserved (op : Byte) (nbytes : BitVec 24) : (encodeL op nbytes).extractLsb' 24 64 = 0#64 := by
  change BitVec.extractLsb' (n := 8+64+24) 24 64 _ = _
  simp (disch := omega) only [encodeL, BitVec.extractLsb'_append_eq_of_le, BitVec.extractLsb'_append_eq_of_add_le, Nat.reduceSub,
    BitVec.extractLsb'_eq_self]

@[simp] theorem encodeL_nbytes (op : Byte) (nbytes : BitVec 24) : (encodeL op nbytes).extractLsb' 0 24 = nbytes := by
  change BitVec.extractLsb' (n := 8+64+24) 0 24 _ = _
  simp (disch := omega) only [encodeL, BitVec.extractLsb'_append_eq_of_add_le, BitVec.extractLsb'_eq_self]

/-! ### encodeRequest -/

@[simp] theorem encodeRequest_tid (fc : Byte) (tid : Half) (unit : Byte) (addr qty : Half) : (encodeRequest fc tid unit addr qty).extractLsb' 80 16 = tid := by
  change BitVec.extractLsb' (n := 16+16+16+8+8+16+16) 80 16 _ = _
  simp (disch := omega) only [encodeRequest, BitVec.extractLsb'_append_eq_of_le, Nat.reduceSub, BitVec.extractLsb'_eq_self]

@[simp] theorem encodeRequest_pid (fc : Byte) (tid : Half) (unit : Byte) (addr qty : Half) : (encodeRequest fc tid unit addr qty).extractLsb' 64 16 = 0x0000#16 := by
  change BitVec.extractLsb' (n := 16+16+16+8+8+16+16) 64 16 _ = _
  simp (disch := omega) only [encodeRequest, BitVec.extractLsb'_append_eq_of_le, BitVec.extractLsb'_append_eq_of_add_le, Nat.reduceSub,
    BitVec.extractLsb'_eq_self]

@[simp] theorem encodeRequest_len (fc : Byte) (tid : Half) (unit : Byte) (addr qty : Half) : (encodeRequest fc tid unit addr qty).extractLsb' 48 16 = 0x0006#16 := by
  change BitVec.extractLsb' (n := 16+16+16+8+8+16+16) 48 16 _ = _
  simp (disch := omega) only [encodeRequest, BitVec.extractLsb'_append_eq_of_le, BitVec.extractLsb'_append_eq_of_add_le, Nat.reduceSub,
    BitVec.extractLsb'_eq_self]

@[simp] theorem encodeRequest_unit (fc : Byte) (tid : Half) (unit : Byte) (addr qty : Half) : (encodeRequest fc tid unit addr qty).extractLsb' 40 8 = unit := by
  change BitVec.extractLsb' (n := 16+16+16+8+8+16+16) 40 8 _ = _
  simp (disch := omega) only [encodeRequest, BitVec.extractLsb'_append_eq_of_le, BitVec.extractLsb'_append_eq_of_add_le, Nat.reduceSub,
    BitVec.extractLsb'_eq_self]

@[simp] theorem encodeRequest_fc (fc : Byte) (tid : Half) (unit : Byte) (addr qty : Half) : (encodeRequest fc tid unit addr qty).extractLsb' 32 8 = fc := by
  change BitVec.extractLsb' (n := 16+16+16+8+8+16+16) 32 8 _ = _
  simp (disch := omega) only [encodeRequest, BitVec.extractLsb'_append_eq_of_le, BitVec.extractLsb'_append_eq_of_add_le, Nat.reduceSub,
    BitVec.extractLsb'_eq_self]

@[simp] theorem encodeRequest_addr (fc : Byte) (tid : Half) (unit : Byte) (addr qty : Half) : (encodeRequest fc tid unit addr qty).extractLsb' 16 16 = addr := by
  change BitVec.extractLsb' (n := 16+16+16+8+8+16+16) 16 16 _ = _
  simp (disch := omega) only [encodeRequest, BitVec.extractLsb'_append_eq_of_le, BitVec.extractLsb'_append_eq_of_add_le, Nat.reduceSub,
    BitVec.extractLsb'_eq_self]

@[simp] theorem encodeRequest_qty (fc : Byte) (tid : Half) (unit : Byte) (addr qty : Half) : (encodeRequest fc tid unit addr qty).extractLsb' 0 16 = qty := by
  change BitVec.extractLsb' (n := 16+16+16+8+8+16+16) 0 16 _ = _
  simp (disch := omega) only [encodeRequest, BitVec.extractLsb'_append_eq_of_add_le, BitVec.extractLsb'_eq_self]

/-! ### encodeResponse -/

@[simp] theorem encodeResponse_tid (tid pid len : Half) (unit fc bc : Byte) : (encodeResponse tid pid len unit fc bc).extractLsb' 56 16 = tid := by
  change BitVec.extractLsb' (n := 16+16+16+8+8+8) 56 16 _ = _
  simp (disch := omega) only [encodeResponse, BitVec.extractLsb'_append_eq_of_le, Nat.reduceSub, BitVec.extractLsb'_eq_self]

@[simp] theorem encodeResponse_pid (tid pid len : Half) (unit fc bc : Byte) : (encodeResponse tid pid len unit fc bc).extractLsb' 40 16 = pid := by
  change BitVec.extractLsb' (n := 16+16+16+8+8+8) 40 16 _ = _
  simp (disch := omega) only [encodeResponse, BitVec.extractLsb'_append_eq_of_le, BitVec.extractLsb'_append_eq_of_add_le, Nat.reduceSub,
    BitVec.extractLsb'_eq_self]

@[simp] theorem encodeResponse_len (tid pid len : Half) (unit fc bc : Byte) : (encodeResponse tid pid len unit fc bc).extractLsb' 24 16 = len := by
  change BitVec.extractLsb' (n := 16+16+16+8+8+8) 24 16 _ = _
  simp (disch := omega) only [encodeResponse, BitVec.extractLsb'_append_eq_of_le, BitVec.extractLsb'_append_eq_of_add_le, Nat.reduceSub,
    BitVec.extractLsb'_eq_self]

@[simp] theorem encodeResponse_unit (tid pid len : Half) (unit fc bc : Byte) : (encodeResponse tid pid len unit fc bc).extractLsb' 16 8 = unit := by
  change BitVec.extractLsb' (n := 16+16+16+8+8+8) 16 8 _ = _
  simp (disch := omega) only [encodeResponse, BitVec.extractLsb'_append_eq_of_le, BitVec.extractLsb'_append_eq_of_add_le, Nat.reduceSub,
    BitVec.extractLsb'_eq_self]

@[simp] theorem encodeResponse_fc (tid pid len : Half) (unit fc bc : Byte) : (encodeResponse tid pid len unit fc bc).extractLsb' 8 8 = fc := by
  change BitVec.extractLsb' (n := 16+16+16+8+8+8) 8 8 _ = _
  simp (disch := omega) only [encodeResponse, BitVec.extractLsb'_append_eq_of_le, BitVec.extractLsb'_append_eq_of_add_le, Nat.reduceSub,
    BitVec.extractLsb'_eq_self]

@[simp] theorem encodeResponse_bc (tid pid len : Half) (unit fc bc : Byte) : (encodeResponse tid pid len unit fc bc).extractLsb' 0 8 = bc := by
  change BitVec.extractLsb' (n := 16+16+16+8+8+8) 0 8 _ = _
  simp (disch := omega) only [encodeResponse, BitVec.extractLsb'_append_eq_of_add_le, BitVec.extractLsb'_eq_self]

/-! ### encodeAnswer -/

@[simp] theorem encodeAnswer_kind (kind : BitVec 2) (b : Byte) : (encodeAnswer kind b).extractLsb' 8 2 = kind := by
  change BitVec.extractLsb' (n := 2+8) 8 2 _ = _
  simp (disch := omega) only [encodeAnswer, BitVec.extractLsb'_append_eq_of_le, Nat.reduceSub, BitVec.extractLsb'_eq_self]

@[simp] theorem encodeAnswer_byte (kind : BitVec 2) (b : Byte) : (encodeAnswer kind b).extractLsb' 0 8 = b := by
  change BitVec.extractLsb' (n := 2+8) 0 8 _ = _
  simp (disch := omega) only [encodeAnswer, BitVec.extractLsb'_append_eq_of_add_le, BitVec.extractLsb'_eq_self]

end Sys2Proof
end

