-- ==== Sys2Proof/Laws/Memory.lean ====
section
/-! SUPPORT. What the buffer operations do: reads after writes, the canonical form, and the shape of a buffer that is filled from its
start. -/

namespace Sys2Proof.Machine

@[simp] theorem Memory.read?_nil (a : Nat) : Memory.read? [] a = none := rfl

@[simp] theorem Memory.readBytes_zero (m : Memory) (off : Nat) : m.readBytes off 0 = some [] := rfl

@[simp] theorem Memory.writeBytes_nil (m : Memory) (off : Nat) : m.writeBytes off [] = m := rfl

theorem Memory.writeBytes_cons (m : Memory) (off : Nat) (b : Byte) (bs : List Byte) :
    m.writeBytes off (b :: bs) = (m.write off b).writeBytes (off + 1) bs := rfl

/-- A write gives the written offset its byte and leaves every other offset alone. -/
theorem Memory.read?_write (m : Memory) (a x : Nat) (b : Byte) :
    (m.write a b).read? x = if x = a then some b else m.read? x := by
  induction m with
  | nil => simp [Memory.write, Memory.read?]
  | cons kc m ih =>
    obtain ⟨k, c⟩ := kc
    simp only [Memory.write]
    split
    · simp [Memory.read?]
    · split
      · next h => subst h; simp only [Memory.read?]; split <;> simp_all
      · simp only [Memory.read?, ih]; split <;> split <;> simp_all

/-- A write of several bytes gives each offset its byte and leaves every other offset alone. -/
theorem Memory.read?_writeBytes (m : Memory) (off x : Nat) (bytes : List Byte) :
    (m.writeBytes off bytes).read? x =
      if off ≤ x ∧ x < off + bytes.length then bytes[x - off]? else m.read? x := by
  induction bytes generalizing m off with
  | nil => simp only [Memory.writeBytes_nil, List.length_nil]; split <;> [omega; rfl]
  | cons b bs ih =>
    rw [Memory.writeBytes_cons, ih, Memory.read?_write]
    by_cases hx : x = off
    · subst hx; simp
    · by_cases h : off + 1 ≤ x ∧ x < off + 1 + bs.length
      · have h' : off ≤ x ∧ x < off + (b :: bs).length := by simp; omega
        rw [if_pos h, if_pos h', show x - off = (x - (off + 1)) + 1 by omega, List.getElem?_cons_succ]
      · have h' : ¬(off ≤ x ∧ x < off + (b :: bs).length) := by simp; omega
        rw [if_neg h, if_neg h', if_neg hx]

/-- MemRead gives a sequence exactly when each of its offsets holds the sequence's byte. -/
theorem Memory.readBytes_eq_some_iff (m : Memory) (off n : Nat) (bytes : List Byte) :
    m.readBytes off n = some bytes ↔ bytes.length = n ∧ ∀ i, i < n → m.read? (off + i) = bytes[i]? := by
  induction n generalizing off bytes with
  | zero => cases bytes <;> simp [Memory.readBytes]
  | succ n ih =>
    simp only [Memory.readBytes]
    constructor
    · intro h
      split at h
      · next b bs hb hbs =>
        obtain ⟨hl, hr⟩ := (ih _ _).1 hbs
        cases h
        refine ⟨by simp [hl], fun i hi => ?_⟩
        cases i with
        | zero => simpa using hb
        | succ i => rw [show off + (i + 1) = off + 1 + i by omega, hr i (by omega)]; simp
      · cases h
    · rintro ⟨hl, hr⟩
      cases bytes with
      | nil => simp at hl
      | cons b bs =>
        have h0 := hr 0 (by omega)
        have hbs : m.readBytes (off + 1) n = some bs := (ih _ _).2 ⟨by simpa using hl, fun i hi => by
          have := hr (i + 1) (by omega)
          rw [show off + 1 + i = off + (i + 1) by omega, this]; simp⟩
        simp only [Nat.add_zero, List.getElem?_cons_zero] at h0
        rw [h0, hbs]

/-- What is written is read back. -/
theorem Memory.readBytes_writeBytes (m : Memory) (off : Nat) (bytes : List Byte) :
    (m.writeBytes off bytes).readBytes off bytes.length = some bytes := by
  rw [Memory.readBytes_eq_some_iff]
  refine ⟨rfl, fun i hi => ?_⟩
  rw [Memory.read?_writeBytes, if_pos (by omega), Nat.add_sub_cancel_left]

/-- A write of two sequences is a write of the first and then of the second behind it. -/
theorem Memory.writeBytes_append (m : Memory) (off : Nat) (xs ys : List Byte) :
    m.writeBytes off (xs ++ ys) = (m.writeBytes off xs).writeBytes (off + xs.length) ys := by
  induction xs generalizing m off with
  | nil => rfl
  | cons x xs ih =>
    simp only [List.cons_append, Memory.writeBytes_cons, List.length_cons, ih]
    congr 1
    omega

/-- A part of what can be read is read as that part. -/
theorem Memory.readBytes_part (m : Memory) (n : Nat) (bytes : List Byte) (h : m.readBytes 0 n = some bytes) (off k : Nat)
    (hk : off + k ≤ n) : m.readBytes off k = some ((bytes.drop off).take k) := by
  rw [Memory.readBytes_eq_some_iff] at h ⊢
  obtain ⟨hl, hr⟩ := h
  refine ⟨by simp; omega, fun i hi => ?_⟩
  have := hr (off + i) (by omega)
  simp only [Nat.zero_add] at this
  rw [this]
  simp [hi]

/-- A write adds no offset but its own. -/
theorem Memory.mem_write_offset (m : Memory) (a k : Nat) (b : Byte) (h : k ∈ (m.write a b).map Prod.fst) :
    k = a ∨ k ∈ m.map Prod.fst := by
  induction m with
  | nil => simpa [Memory.write] using h
  | cons kc m ih =>
    simp only [Memory.write] at h
    split at h
    · simpa using h
    · split at h
      · simp_all
      · simp only [List.map_cons, List.mem_cons] at h ⊢
        rcases h with h | h
        · exact .inr (.inl h)
        · exact (ih h).imp_right .inr

/-- A write keeps the canonical form. -/
theorem Memory.wf_write (m : Memory) (a : Nat) (b : Byte) (h : m.wf) : (m.write a b).wf := by
  induction m with
  | nil => simp [Memory.wf, Memory.write]
  | cons kc m ih =>
    simp only [Memory.wf, List.map_cons, List.pairwise_cons] at h ih
    simp only [Memory.write, Memory.wf]
    split
    · simp only [List.map_cons, List.pairwise_cons, List.mem_cons]
      refine ⟨fun x hx => ?_, h⟩
      rcases hx with rfl | hx
      · assumption
      · have := h.1 x hx; omega
    · split
      · next hk => simp only [List.map_cons, List.pairwise_cons]; exact ⟨hk ▸ h.1, h.2⟩
      · simp only [List.map_cons, List.pairwise_cons]
        refine ⟨fun x hx => ?_, ih h.2⟩
        rcases Memory.mem_write_offset m a x b hx with rfl | hx
        · omega
        · exact h.1 x hx

/-- A write of several bytes keeps the canonical form. -/
theorem Memory.wf_writeBytes (m : Memory) (off : Nat) (bytes : List Byte) (h : m.wf) : (m.writeBytes off bytes).wf := by
  induction bytes generalizing m off with
  | nil => exact h
  | cons b bs ih => exact ih _ _ (Memory.wf_write m off b h)

/-- The empty buffer is in canonical form. -/
theorem Memory.wf_nil : Memory.wf [] := by simp [Memory.wf]

/-- A write at an offset above all listed ones comes last. -/
theorem Memory.write_above (m : Memory) (a : Nat) (b : Byte) (h : ∀ k ∈ m.map Prod.fst, k < a) :
    m.write a b = m ++ [(a, b)] := by
  induction m with
  | nil => rfl
  | cons kc m ih =>
    have hk : kc.1 < a := h kc.1 (by simp)
    simp only [Memory.write]
    rw [if_neg (by omega), if_neg (by omega), ih fun k hk' => h k (by simp [hk'])]
    rfl

/-- A buffer that lists the offsets below `n`, written at `n`, lists the offsets below `n + 1`. -/
theorem Memory.offsets_write_next (m : Memory) (n : Nat) (b : Byte) (h : m.map Prod.fst = List.range n) :
    (m.write n b).map Prod.fst = List.range (n + 1) := by
  rw [Memory.write_above m n b (fun k hk => by rw [h] at hk; simpa using hk), List.map_append, h, List.range_succ]
  rfl

/-- The same for several bytes. -/
theorem Memory.offsets_writeBytes_next (m : Memory) (n : Nat) (bytes : List Byte) (h : m.map Prod.fst = List.range n) :
    (m.writeBytes n bytes).map Prod.fst = List.range (n + bytes.length) := by
  induction bytes generalizing m n with
  | nil => simpa using h
  | cons b bs ih =>
    rw [Memory.writeBytes_cons, ih _ _ (Memory.offsets_write_next m n b h), List.length_cons]
    congr 1
    omega

/-- An offset holds a byte exactly when it is listed. -/
theorem Memory.read?_isSome (m : Memory) (a : Nat) : (m.read? a).isSome ↔ a ∈ m.map Prod.fst := by
  induction m with
  | nil => simp
  | cons kc m ih =>
    simp only [Memory.read?, List.map_cons, List.mem_cons]
    split <;> simp_all

/-- A range of listed offsets can be read. -/
theorem Memory.readBytes_isSome (m : Memory) (off n : Nat) (h : ∀ a, off ≤ a → a < off + n → a ∈ m.map Prod.fst) :
    ∃ bytes, m.readBytes off n = some bytes ∧ bytes.length = n := by
  induction n generalizing off with
  | zero => exact ⟨[], rfl, rfl⟩
  | succ n ih =>
    obtain ⟨bs, hbs, hl⟩ := ih (off + 1) fun a h1 h2 => h a (by omega) (by omega)
    obtain ⟨b, hb⟩ := Option.isSome_iff_exists.1 ((Memory.read?_isSome m off).2 (h off (by omega) (by omega)))
    exact ⟨b :: bs, by simp only [Memory.readBytes, hb, hbs], by simp [hl]⟩

/-- A buffer with the offsets below `n` is in canonical form. -/
theorem Memory.wf_of_offsets (m : Memory) (n : Nat) (h : m.map Prod.fst = List.range n) : m.wf := by
  unfold Memory.wf; rw [h]; exact List.pairwise_lt_range

/-- MemWrite inside the buffer. -/
theorem writeBuffer_eq_some (cap : Nat) (m m' : Memory) (off : Nat) (bytes : List Byte) :
    writeBuffer cap m off bytes = some m' ↔ off + bytes.length ≤ cap ∧ m' = m.writeBytes off bytes := by
  unfold writeBuffer; split <;> simp_all [eq_comm]

end Sys2Proof.Machine
end

