-- ==== Sys2Proof/Laws/Operands.lean ====
section
/-! SUPPORT. What the derived quantities are as numbers: the byte order (R15, R62), the checks of BUILD (R130) and the lengths of the
sequences a command transfers. -/

namespace Sys2Proof.Machine

/-- be16 as a number: the byte at the lower offset weighs 256 (R15). -/
theorem be16_toNat (f : List Byte) (o : Nat) : (be16 f o).toNat = (byteAt f o).toNat * 256 + (byteAt f (o + 1)).toNat := by
  unfold be16
  generalize byteAt f o = hi, byteAt f (o + 1) = lo
  rw [BitVec.toNat_append, ← Nat.shiftLeft_add_eq_or_of_lt lo.isLt, Nat.shiftLeft_eq]

/-- A fold of beN that starts with a value puts it above the bytes. -/
theorem foldl_be (bytes : List Byte) (acc : Nat) :
    bytes.foldl (fun a b => a * 256 + b.toNat) acc = acc * 256 ^ bytes.length + beNat bytes := by
  induction bytes generalizing acc with
  | nil => simp [beNat]
  | cons b bs ih =>
    simp only [beNat, List.foldl_cons, List.length_cons]
    rw [ih, ih (0 * 256 + b.toNat)]
    ring

/-- beN of two sequences, one after the other (R63). -/
theorem beNat_append (xs ys : List Byte) : beNat (xs ++ ys) = beNat xs * 256 ^ ys.length + beNat ys := by
  rw [beNat, List.foldl_append, foldl_be]
  rfl

/-- beN of n bytes is below 256 ^ n. -/
theorem beNat_lt (bytes : List Byte) : beNat bytes < 256 ^ bytes.length := by
  induction bytes with
  | nil => simp [beNat]
  | cons b bs ih =>
    rw [show b :: bs = [b] ++ bs from rfl, beNat_append, List.length_append, Nat.pow_add]
    have hb := b.isLt
    calc beNat [b] * 256 ^ bs.length + beNat bs < beNat [b] * 256 ^ bs.length + 256 ^ bs.length := by omega
      _ = (beNat [b] + 1) * 256 ^ bs.length := by ring
      _ ≤ 256 ^ [b].length * 256 ^ bs.length := Nat.mul_le_mul_right _ (by simp [beNat]; omega)

/-- Operands that pass BUILD's checks are a supported function code, both operands present, a start address in range and a count that is
not 0 (R130, R131). -/
theorem buildFailure_none (e : Bool) (fc : Byte) (o : BuildOperands) (h : buildFailure e fc o = none) :
    o.ps = true ∧ o.pc = true ∧ supportedFc fc = true ∧ 1 ≤ o.start.toNat ∧ o.start.toNat ≤ 65536 ∧ o.count ≠ 0 := by
  unfold buildFailure at h
  split at h; · cases h
  split at h; · cases h
  split at h; · cases h
  split at h; · cases h
  split at h; · cases h
  simp_all
  omega

@[simp] theorem requestFrame_length (tid : Half) (unit fc : Byte) (addr qty : Half) :
    (requestFrame tid unit fc addr qty).length = Config.txLen := rfl

@[simp] theorem responseStart_length (tid pid len : Half) (unit fc bc : Byte) :
    (responseStart tid pid len unit fc bc).length = 9 := rfl

@[simp] theorem valWords_length (t : NumType) (bytes : List Byte) (n : Nat) : (valWords t bytes n).length = n := by
  simp [valWords]

/-- Every type has a width. -/
theorem typeWidth_pos (t : NumType) : 0 < typeWidth t := by cases t <;> decide

end Sys2Proof.Machine
end

