-- ==== Sys2Proof/Laws/State.lean ====
section
/-! SUPPORT. One lemma for each field under each shared update of the state, so that no proof unfolds a record update. -/

namespace Sys2Proof.Machine

/-! ### complete -/

@[simp] theorem complete_reqUnit (k : Kind) (sub : BitVec 4) (res : Word32) (s : State) : (complete k sub res s).reqUnit = s.reqUnit := rfl
@[simp] theorem complete_reqTid (k : Kind) (sub : BitVec 4) (res : Word32) (s : State) : (complete k sub res s).reqTid = s.reqTid := rfl
@[simp] theorem complete_reqFc (k : Kind) (sub : BitVec 4) (res : Word32) (s : State) : (complete k sub res s).reqFc = s.reqFc := rfl
@[simp] theorem complete_reqAddr (k : Kind) (sub : BitVec 4) (res : Word32) (s : State) : (complete k sub res s).reqAddr = s.reqAddr := rfl
@[simp] theorem complete_reqQty (k : Kind) (sub : BitVec 4) (res : Word32) (s : State) : (complete k sub res s).reqQty = s.reqQty := rfl
@[simp] theorem complete_reqValid (k : Kind) (sub : BitVec 4) (res : Word32) (s : State) : (complete k sub res s).reqValid = s.reqValid := rfl
@[simp] theorem complete_link (k : Kind) (sub : BitVec 4) (res : Word32) (s : State) : (complete k sub res s).link = s.link := rfl
@[simp] theorem complete_connFail (k : Kind) (sub : BitVec 4) (res : Word32) (s : State) : (complete k sub res s).connFail = s.connFail := rfl
@[simp] theorem complete_inFlight (k : Kind) (sub : BitVec 4) (res : Word32) (s : State) : (complete k sub res s).inFlight = s.inFlight := rfl
@[simp] theorem complete_seqErr (k : Kind) (sub : BitVec 4) (res : Word32) (s : State) : (complete k sub res s).seqErr = s.seqErr := rfl
@[simp] theorem complete_pend (k : Kind) (sub : BitVec 4) (res : Word32) (s : State) : (complete k sub res s).pend = .none := rfl
@[simp] theorem complete_rxState (k : Kind) (sub : BitVec 4) (res : Word32) (s : State) : (complete k sub res s).rxState = s.rxState := rfl
@[simp] theorem complete_rxNeed (k : Kind) (sub : BitVec 4) (res : Word32) (s : State) : (complete k sub res s).rxNeed = s.rxNeed := rfl
@[simp] theorem complete_rxBuf (k : Kind) (sub : BitVec 4) (res : Word32) (s : State) : (complete k sub res s).rxBuf = s.rxBuf := rfl
@[simp] theorem complete_rxLen (k : Kind) (sub : BitVec 4) (res : Word32) (s : State) : (complete k sub res s).rxLen = s.rxLen := rfl
@[simp] theorem complete_rxValid (k : Kind) (sub : BitVec 4) (res : Word32) (s : State) : (complete k sub res s).rxValid = s.rxValid := rfl
@[simp] theorem complete_rspTid (k : Kind) (sub : BitVec 4) (res : Word32) (s : State) : (complete k sub res s).rspTid = s.rspTid := rfl
@[simp] theorem complete_rspPid (k : Kind) (sub : BitVec 4) (res : Word32) (s : State) : (complete k sub res s).rspPid = s.rspPid := rfl
@[simp] theorem complete_rspLen (k : Kind) (sub : BitVec 4) (res : Word32) (s : State) : (complete k sub res s).rspLen = s.rspLen := rfl
@[simp] theorem complete_rspUnit (k : Kind) (sub : BitVec 4) (res : Word32) (s : State) : (complete k sub res s).rspUnit = s.rspUnit := rfl
@[simp] theorem complete_rspFc (k : Kind) (sub : BitVec 4) (res : Word32) (s : State) : (complete k sub res s).rspFc = s.rspFc := rfl
@[simp] theorem complete_rspBc (k : Kind) (sub : BitVec 4) (res : Word32) (s : State) : (complete k sub res s).rspBc = s.rspBc := rfl
@[simp] theorem complete_rspData (k : Kind) (sub : BitVec 4) (res : Word32) (s : State) : (complete k sub res s).rspData = s.rspData := rfl
@[simp] theorem complete_rspValid (k : Kind) (sub : BitVec 4) (res : Word32) (s : State) : (complete k sub res s).rspValid = s.rspValid := rfl
@[simp] theorem complete_trail (k : Kind) (sub : BitVec 4) (res : Word32) (s : State) : (complete k sub res s).trail = s.trail := rfl
@[simp] theorem complete_err (k : Kind) (sub : BitVec 4) (res : Word32) (s : State) : (complete k sub res s).err = errWord k sub := rfl
@[simp] theorem complete_errLog (k : Kind) (sub : BitVec 4) (res : Word32) (s : State) : (complete k sub res s).errLog = s.errLog ||| stickyBit k := rfl
@[simp] theorem complete_free (k : Kind) (sub : BitVec 4) (res : Word32) (s : State) : (complete k sub res s).free = s.free := rfl
@[simp] theorem complete_enforceMaxima (k : Kind) (sub : BitVec 4) (res : Word32) (s : State) : (complete k sub res s).enforceMaxima = s.enforceMaxima := rfl
@[simp] theorem complete_inbox (k : Kind) (sub : BitVec 4) (res : Word32) (s : State) : (complete k sub res s).inbox = s.inbox := rfl
@[simp] theorem complete_waiting (k : Kind) (sub : BitVec 4) (res : Word32) (s : State) : (complete k sub res s).waiting = s.waiting := rfl
@[simp] theorem complete_rxQueue (k : Kind) (sub : BitVec 4) (res : Word32) (s : State) : (complete k sub res s).rxQueue = s.rxQueue := rfl
@[simp] theorem complete_peerClosed (k : Kind) (sub : BitVec 4) (res : Word32) (s : State) : (complete k sub res s).peerClosed = s.peerClosed := rfl
@[simp] theorem complete_connAnswers (k : Kind) (sub : BitVec 4) (res : Word32) (s : State) : (complete k sub res s).connAnswers = s.connAnswers := rfl
@[simp] theorem complete_transport (k : Kind) (sub : BitVec 4) (res : Word32) (s : State) : (complete k sub res s).transport = s.transport := rfl
@[simp] theorem complete_results (k : Kind) (sub : BitVec 4) (res : Word32) (s : State) : (complete k sub res s).results = s.results ++ [⟨k, sub, res⟩] := rfl
@[simp] theorem complete_values (k : Kind) (sub : BitVec 4) (res : Word32) (s : State) : (complete k sub res s).values = s.values := rfl
@[simp] theorem complete_readOut (k : Kind) (sub : BitVec 4) (res : Word32) (s : State) : (complete k sub res s).readOut = s.readOut := rfl

/-! ### raiseFailure -/

@[simp] theorem raiseFailure_reqUnit (k : Kind) (sub : BitVec 4) (s : State) : (raiseFailure k sub s).reqUnit = s.reqUnit := rfl
@[simp] theorem raiseFailure_reqTid (k : Kind) (sub : BitVec 4) (s : State) : (raiseFailure k sub s).reqTid = s.reqTid := rfl
@[simp] theorem raiseFailure_reqFc (k : Kind) (sub : BitVec 4) (s : State) : (raiseFailure k sub s).reqFc = s.reqFc := rfl
@[simp] theorem raiseFailure_reqAddr (k : Kind) (sub : BitVec 4) (s : State) : (raiseFailure k sub s).reqAddr = s.reqAddr := rfl
@[simp] theorem raiseFailure_reqQty (k : Kind) (sub : BitVec 4) (s : State) : (raiseFailure k sub s).reqQty = s.reqQty := rfl
@[simp] theorem raiseFailure_reqValid (k : Kind) (sub : BitVec 4) (s : State) : (raiseFailure k sub s).reqValid = s.reqValid := rfl
@[simp] theorem raiseFailure_link (k : Kind) (sub : BitVec 4) (s : State) : (raiseFailure k sub s).link = s.link := rfl
@[simp] theorem raiseFailure_connFail (k : Kind) (sub : BitVec 4) (s : State) : (raiseFailure k sub s).connFail = s.connFail := rfl
@[simp] theorem raiseFailure_inFlight (k : Kind) (sub : BitVec 4) (s : State) : (raiseFailure k sub s).inFlight = s.inFlight := rfl
@[simp] theorem raiseFailure_seqErr (k : Kind) (sub : BitVec 4) (s : State) : (raiseFailure k sub s).seqErr = s.seqErr := rfl
@[simp] theorem raiseFailure_pend (k : Kind) (sub : BitVec 4) (s : State) : (raiseFailure k sub s).pend = .none := rfl
@[simp] theorem raiseFailure_rxState (k : Kind) (sub : BitVec 4) (s : State) : (raiseFailure k sub s).rxState = s.rxState := rfl
@[simp] theorem raiseFailure_rxNeed (k : Kind) (sub : BitVec 4) (s : State) : (raiseFailure k sub s).rxNeed = s.rxNeed := rfl
@[simp] theorem raiseFailure_rxBuf (k : Kind) (sub : BitVec 4) (s : State) : (raiseFailure k sub s).rxBuf = s.rxBuf := rfl
@[simp] theorem raiseFailure_rxLen (k : Kind) (sub : BitVec 4) (s : State) : (raiseFailure k sub s).rxLen = s.rxLen := rfl
@[simp] theorem raiseFailure_rxValid (k : Kind) (sub : BitVec 4) (s : State) : (raiseFailure k sub s).rxValid = s.rxValid := rfl
@[simp] theorem raiseFailure_rspTid (k : Kind) (sub : BitVec 4) (s : State) : (raiseFailure k sub s).rspTid = s.rspTid := rfl
@[simp] theorem raiseFailure_rspPid (k : Kind) (sub : BitVec 4) (s : State) : (raiseFailure k sub s).rspPid = s.rspPid := rfl
@[simp] theorem raiseFailure_rspLen (k : Kind) (sub : BitVec 4) (s : State) : (raiseFailure k sub s).rspLen = s.rspLen := rfl
@[simp] theorem raiseFailure_rspUnit (k : Kind) (sub : BitVec 4) (s : State) : (raiseFailure k sub s).rspUnit = s.rspUnit := rfl
@[simp] theorem raiseFailure_rspFc (k : Kind) (sub : BitVec 4) (s : State) : (raiseFailure k sub s).rspFc = s.rspFc := rfl
@[simp] theorem raiseFailure_rspBc (k : Kind) (sub : BitVec 4) (s : State) : (raiseFailure k sub s).rspBc = s.rspBc := rfl
@[simp] theorem raiseFailure_rspData (k : Kind) (sub : BitVec 4) (s : State) : (raiseFailure k sub s).rspData = s.rspData := rfl
@[simp] theorem raiseFailure_rspValid (k : Kind) (sub : BitVec 4) (s : State) : (raiseFailure k sub s).rspValid = s.rspValid := rfl
@[simp] theorem raiseFailure_trail (k : Kind) (sub : BitVec 4) (s : State) : (raiseFailure k sub s).trail = s.trail := rfl
@[simp] theorem raiseFailure_err (k : Kind) (sub : BitVec 4) (s : State) : (raiseFailure k sub s).err = errWord k sub := rfl
@[simp] theorem raiseFailure_errLog (k : Kind) (sub : BitVec 4) (s : State) : (raiseFailure k sub s).errLog = s.errLog ||| stickyBit k := rfl
@[simp] theorem raiseFailure_free (k : Kind) (sub : BitVec 4) (s : State) : (raiseFailure k sub s).free = s.free := rfl
@[simp] theorem raiseFailure_enforceMaxima (k : Kind) (sub : BitVec 4) (s : State) : (raiseFailure k sub s).enforceMaxima = s.enforceMaxima := rfl
@[simp] theorem raiseFailure_inbox (k : Kind) (sub : BitVec 4) (s : State) : (raiseFailure k sub s).inbox = s.inbox := rfl
@[simp] theorem raiseFailure_waiting (k : Kind) (sub : BitVec 4) (s : State) : (raiseFailure k sub s).waiting = s.waiting := rfl
@[simp] theorem raiseFailure_rxQueue (k : Kind) (sub : BitVec 4) (s : State) : (raiseFailure k sub s).rxQueue = s.rxQueue := rfl
@[simp] theorem raiseFailure_peerClosed (k : Kind) (sub : BitVec 4) (s : State) : (raiseFailure k sub s).peerClosed = s.peerClosed := rfl
@[simp] theorem raiseFailure_connAnswers (k : Kind) (sub : BitVec 4) (s : State) : (raiseFailure k sub s).connAnswers = s.connAnswers := rfl
@[simp] theorem raiseFailure_transport (k : Kind) (sub : BitVec 4) (s : State) : (raiseFailure k sub s).transport = s.transport := rfl
@[simp] theorem raiseFailure_results (k : Kind) (sub : BitVec 4) (s : State) : (raiseFailure k sub s).results = s.results ++ [⟨k, sub, 0⟩] := rfl
@[simp] theorem raiseFailure_values (k : Kind) (sub : BitVec 4) (s : State) : (raiseFailure k sub s).values = s.values := rfl
@[simp] theorem raiseFailure_readOut (k : Kind) (sub : BitVec 4) (s : State) : (raiseFailure k sub s).readOut = s.readOut := rfl

/-! ### txPush -/

@[simp] theorem txPush_reqUnit (bytes : List Byte) (s : State) : (txPush bytes s).reqUnit = s.reqUnit := rfl
@[simp] theorem txPush_reqTid (bytes : List Byte) (s : State) : (txPush bytes s).reqTid = s.reqTid := rfl
@[simp] theorem txPush_reqFc (bytes : List Byte) (s : State) : (txPush bytes s).reqFc = s.reqFc := rfl
@[simp] theorem txPush_reqAddr (bytes : List Byte) (s : State) : (txPush bytes s).reqAddr = s.reqAddr := rfl
@[simp] theorem txPush_reqQty (bytes : List Byte) (s : State) : (txPush bytes s).reqQty = s.reqQty := rfl
@[simp] theorem txPush_reqValid (bytes : List Byte) (s : State) : (txPush bytes s).reqValid = s.reqValid := rfl
@[simp] theorem txPush_link (bytes : List Byte) (s : State) : (txPush bytes s).link = s.link := rfl
@[simp] theorem txPush_connFail (bytes : List Byte) (s : State) : (txPush bytes s).connFail = s.connFail := rfl
@[simp] theorem txPush_inFlight (bytes : List Byte) (s : State) : (txPush bytes s).inFlight = s.inFlight := rfl
@[simp] theorem txPush_seqErr (bytes : List Byte) (s : State) : (txPush bytes s).seqErr = s.seqErr := rfl
@[simp] theorem txPush_pend (bytes : List Byte) (s : State) : (txPush bytes s).pend = s.pend := rfl
@[simp] theorem txPush_rxState (bytes : List Byte) (s : State) : (txPush bytes s).rxState = s.rxState := rfl
@[simp] theorem txPush_rxNeed (bytes : List Byte) (s : State) : (txPush bytes s).rxNeed = s.rxNeed := rfl
@[simp] theorem txPush_rxBuf (bytes : List Byte) (s : State) : (txPush bytes s).rxBuf = s.rxBuf := rfl
@[simp] theorem txPush_rxLen (bytes : List Byte) (s : State) : (txPush bytes s).rxLen = s.rxLen := rfl
@[simp] theorem txPush_rxValid (bytes : List Byte) (s : State) : (txPush bytes s).rxValid = s.rxValid := rfl
@[simp] theorem txPush_rspTid (bytes : List Byte) (s : State) : (txPush bytes s).rspTid = s.rspTid := rfl
@[simp] theorem txPush_rspPid (bytes : List Byte) (s : State) : (txPush bytes s).rspPid = s.rspPid := rfl
@[simp] theorem txPush_rspLen (bytes : List Byte) (s : State) : (txPush bytes s).rspLen = s.rspLen := rfl
@[simp] theorem txPush_rspUnit (bytes : List Byte) (s : State) : (txPush bytes s).rspUnit = s.rspUnit := rfl
@[simp] theorem txPush_rspFc (bytes : List Byte) (s : State) : (txPush bytes s).rspFc = s.rspFc := rfl
@[simp] theorem txPush_rspBc (bytes : List Byte) (s : State) : (txPush bytes s).rspBc = s.rspBc := rfl
@[simp] theorem txPush_rspData (bytes : List Byte) (s : State) : (txPush bytes s).rspData = s.rspData := rfl
@[simp] theorem txPush_rspValid (bytes : List Byte) (s : State) : (txPush bytes s).rspValid = s.rspValid := rfl
@[simp] theorem txPush_trail (bytes : List Byte) (s : State) : (txPush bytes s).trail = s.trail := rfl
@[simp] theorem txPush_err (bytes : List Byte) (s : State) : (txPush bytes s).err = s.err := rfl
@[simp] theorem txPush_errLog (bytes : List Byte) (s : State) : (txPush bytes s).errLog = s.errLog := rfl
@[simp] theorem txPush_free (bytes : List Byte) (s : State) : (txPush bytes s).free = s.free := rfl
@[simp] theorem txPush_enforceMaxima (bytes : List Byte) (s : State) : (txPush bytes s).enforceMaxima = s.enforceMaxima := rfl
@[simp] theorem txPush_inbox (bytes : List Byte) (s : State) : (txPush bytes s).inbox = s.inbox := rfl
@[simp] theorem txPush_waiting (bytes : List Byte) (s : State) : (txPush bytes s).waiting = s.waiting := rfl
@[simp] theorem txPush_rxQueue (bytes : List Byte) (s : State) : (txPush bytes s).rxQueue = s.rxQueue := rfl
@[simp] theorem txPush_peerClosed (bytes : List Byte) (s : State) : (txPush bytes s).peerClosed = s.peerClosed := rfl
@[simp] theorem txPush_connAnswers (bytes : List Byte) (s : State) : (txPush bytes s).connAnswers = s.connAnswers := rfl
@[simp] theorem txPush_transport (bytes : List Byte) (s : State) : (txPush bytes s).transport = s.transport ++ [.push bytes] := rfl
@[simp] theorem txPush_results (bytes : List Byte) (s : State) : (txPush bytes s).results = s.results := rfl
@[simp] theorem txPush_values (bytes : List Byte) (s : State) : (txPush bytes s).values = s.values := rfl
@[simp] theorem txPush_readOut (bytes : List Byte) (s : State) : (txPush bytes s).readOut = s.readOut := rfl

/-! ### closeReq -/

@[simp] theorem closeReq_reqUnit (s : State) : (closeReq s).reqUnit = s.reqUnit := rfl
@[simp] theorem closeReq_reqTid (s : State) : (closeReq s).reqTid = s.reqTid := rfl
@[simp] theorem closeReq_reqFc (s : State) : (closeReq s).reqFc = s.reqFc := rfl
@[simp] theorem closeReq_reqAddr (s : State) : (closeReq s).reqAddr = s.reqAddr := rfl
@[simp] theorem closeReq_reqQty (s : State) : (closeReq s).reqQty = s.reqQty := rfl
@[simp] theorem closeReq_reqValid (s : State) : (closeReq s).reqValid = s.reqValid := rfl
@[simp] theorem closeReq_link (s : State) : (closeReq s).link = s.link := rfl
@[simp] theorem closeReq_connFail (s : State) : (closeReq s).connFail = s.connFail := rfl
@[simp] theorem closeReq_inFlight (s : State) : (closeReq s).inFlight = s.inFlight := rfl
@[simp] theorem closeReq_seqErr (s : State) : (closeReq s).seqErr = s.seqErr := rfl
@[simp] theorem closeReq_pend (s : State) : (closeReq s).pend = s.pend := rfl
@[simp] theorem closeReq_rxState (s : State) : (closeReq s).rxState = s.rxState := rfl
@[simp] theorem closeReq_rxNeed (s : State) : (closeReq s).rxNeed = s.rxNeed := rfl
@[simp] theorem closeReq_rxBuf (s : State) : (closeReq s).rxBuf = s.rxBuf := rfl
@[simp] theorem closeReq_rxLen (s : State) : (closeReq s).rxLen = s.rxLen := rfl
@[simp] theorem closeReq_rxValid (s : State) : (closeReq s).rxValid = s.rxValid := rfl
@[simp] theorem closeReq_rspTid (s : State) : (closeReq s).rspTid = s.rspTid := rfl
@[simp] theorem closeReq_rspPid (s : State) : (closeReq s).rspPid = s.rspPid := rfl
@[simp] theorem closeReq_rspLen (s : State) : (closeReq s).rspLen = s.rspLen := rfl
@[simp] theorem closeReq_rspUnit (s : State) : (closeReq s).rspUnit = s.rspUnit := rfl
@[simp] theorem closeReq_rspFc (s : State) : (closeReq s).rspFc = s.rspFc := rfl
@[simp] theorem closeReq_rspBc (s : State) : (closeReq s).rspBc = s.rspBc := rfl
@[simp] theorem closeReq_rspData (s : State) : (closeReq s).rspData = s.rspData := rfl
@[simp] theorem closeReq_rspValid (s : State) : (closeReq s).rspValid = s.rspValid := rfl
@[simp] theorem closeReq_trail (s : State) : (closeReq s).trail = s.trail := rfl
@[simp] theorem closeReq_err (s : State) : (closeReq s).err = s.err := rfl
@[simp] theorem closeReq_errLog (s : State) : (closeReq s).errLog = s.errLog := rfl
@[simp] theorem closeReq_free (s : State) : (closeReq s).free = s.free := rfl
@[simp] theorem closeReq_enforceMaxima (s : State) : (closeReq s).enforceMaxima = s.enforceMaxima := rfl
@[simp] theorem closeReq_inbox (s : State) : (closeReq s).inbox = s.inbox := rfl
@[simp] theorem closeReq_waiting (s : State) : (closeReq s).waiting = s.waiting := rfl
@[simp] theorem closeReq_rxQueue (s : State) : (closeReq s).rxQueue = [] := rfl
@[simp] theorem closeReq_peerClosed (s : State) : (closeReq s).peerClosed = false := rfl
@[simp] theorem closeReq_connAnswers (s : State) : (closeReq s).connAnswers = s.connAnswers := rfl
@[simp] theorem closeReq_transport (s : State) : (closeReq s).transport = s.transport ++ [.close] := rfl
@[simp] theorem closeReq_results (s : State) : (closeReq s).results = s.results := rfl
@[simp] theorem closeReq_values (s : State) : (closeReq s).values = s.values := rfl
@[simp] theorem closeReq_readOut (s : State) : (closeReq s).readOut = s.readOut := rfl

/-! ### freshStream -/

@[simp] theorem freshStream_reqUnit (s : State) : (freshStream s).reqUnit = s.reqUnit := rfl
@[simp] theorem freshStream_reqTid (s : State) : (freshStream s).reqTid = s.reqTid := rfl
@[simp] theorem freshStream_reqFc (s : State) : (freshStream s).reqFc = s.reqFc := rfl
@[simp] theorem freshStream_reqAddr (s : State) : (freshStream s).reqAddr = s.reqAddr := rfl
@[simp] theorem freshStream_reqQty (s : State) : (freshStream s).reqQty = s.reqQty := rfl
@[simp] theorem freshStream_reqValid (s : State) : (freshStream s).reqValid = s.reqValid := rfl
@[simp] theorem freshStream_link (s : State) : (freshStream s).link = s.link := rfl
@[simp] theorem freshStream_connFail (s : State) : (freshStream s).connFail = s.connFail := rfl
@[simp] theorem freshStream_inFlight (s : State) : (freshStream s).inFlight = s.inFlight := rfl
@[simp] theorem freshStream_seqErr (s : State) : (freshStream s).seqErr = s.seqErr := rfl
@[simp] theorem freshStream_pend (s : State) : (freshStream s).pend = s.pend := rfl
@[simp] theorem freshStream_rxState (s : State) : (freshStream s).rxState = s.rxState := rfl
@[simp] theorem freshStream_rxNeed (s : State) : (freshStream s).rxNeed = s.rxNeed := rfl
@[simp] theorem freshStream_rxBuf (s : State) : (freshStream s).rxBuf = s.rxBuf := rfl
@[simp] theorem freshStream_rxLen (s : State) : (freshStream s).rxLen = s.rxLen := rfl
@[simp] theorem freshStream_rxValid (s : State) : (freshStream s).rxValid = s.rxValid := rfl
@[simp] theorem freshStream_rspTid (s : State) : (freshStream s).rspTid = s.rspTid := rfl
@[simp] theorem freshStream_rspPid (s : State) : (freshStream s).rspPid = s.rspPid := rfl
@[simp] theorem freshStream_rspLen (s : State) : (freshStream s).rspLen = s.rspLen := rfl
@[simp] theorem freshStream_rspUnit (s : State) : (freshStream s).rspUnit = s.rspUnit := rfl
@[simp] theorem freshStream_rspFc (s : State) : (freshStream s).rspFc = s.rspFc := rfl
@[simp] theorem freshStream_rspBc (s : State) : (freshStream s).rspBc = s.rspBc := rfl
@[simp] theorem freshStream_rspData (s : State) : (freshStream s).rspData = s.rspData := rfl
@[simp] theorem freshStream_rspValid (s : State) : (freshStream s).rspValid = s.rspValid := rfl
@[simp] theorem freshStream_trail (s : State) : (freshStream s).trail = s.trail := rfl
@[simp] theorem freshStream_err (s : State) : (freshStream s).err = s.err := rfl
@[simp] theorem freshStream_errLog (s : State) : (freshStream s).errLog = s.errLog := rfl
@[simp] theorem freshStream_free (s : State) : (freshStream s).free = s.free := rfl
@[simp] theorem freshStream_enforceMaxima (s : State) : (freshStream s).enforceMaxima = s.enforceMaxima := rfl
@[simp] theorem freshStream_inbox (s : State) : (freshStream s).inbox = s.inbox := rfl
@[simp] theorem freshStream_waiting (s : State) : (freshStream s).waiting = s.waiting := rfl
@[simp] theorem freshStream_rxQueue (s : State) : (freshStream s).rxQueue = [] := rfl
@[simp] theorem freshStream_peerClosed (s : State) : (freshStream s).peerClosed = false := rfl
@[simp] theorem freshStream_connAnswers (s : State) : (freshStream s).connAnswers = s.connAnswers := rfl
@[simp] theorem freshStream_transport (s : State) : (freshStream s).transport = s.transport := rfl
@[simp] theorem freshStream_results (s : State) : (freshStream s).results = s.results := rfl
@[simp] theorem freshStream_values (s : State) : (freshStream s).values = s.values := rfl
@[simp] theorem freshStream_readOut (s : State) : (freshStream s).readOut = s.readOut := rfl

/-! ### setRequest -/

@[simp] theorem setRequest_reqUnit (fc : Byte) (o : BuildOperands) (s : State) : (setRequest fc o s).reqUnit = o.unit := rfl
@[simp] theorem setRequest_reqTid (fc : Byte) (o : BuildOperands) (s : State) : (setRequest fc o s).reqTid = o.tid := rfl
@[simp] theorem setRequest_reqFc (fc : Byte) (o : BuildOperands) (s : State) : (setRequest fc o s).reqFc = fc := rfl
@[simp] theorem setRequest_reqAddr (fc : Byte) (o : BuildOperands) (s : State) : (setRequest fc o s).reqAddr = startAddress o.start := rfl
@[simp] theorem setRequest_reqQty (fc : Byte) (o : BuildOperands) (s : State) : (setRequest fc o s).reqQty = o.count := rfl
@[simp] theorem setRequest_reqValid (fc : Byte) (o : BuildOperands) (s : State) : (setRequest fc o s).reqValid = true := rfl
@[simp] theorem setRequest_link (fc : Byte) (o : BuildOperands) (s : State) : (setRequest fc o s).link = s.link := rfl
@[simp] theorem setRequest_connFail (fc : Byte) (o : BuildOperands) (s : State) : (setRequest fc o s).connFail = s.connFail := rfl
@[simp] theorem setRequest_inFlight (fc : Byte) (o : BuildOperands) (s : State) : (setRequest fc o s).inFlight = s.inFlight := rfl
@[simp] theorem setRequest_seqErr (fc : Byte) (o : BuildOperands) (s : State) : (setRequest fc o s).seqErr = s.seqErr := rfl
@[simp] theorem setRequest_pend (fc : Byte) (o : BuildOperands) (s : State) : (setRequest fc o s).pend = s.pend := rfl
@[simp] theorem setRequest_rxState (fc : Byte) (o : BuildOperands) (s : State) : (setRequest fc o s).rxState = s.rxState := rfl
@[simp] theorem setRequest_rxNeed (fc : Byte) (o : BuildOperands) (s : State) : (setRequest fc o s).rxNeed = s.rxNeed := rfl
@[simp] theorem setRequest_rxBuf (fc : Byte) (o : BuildOperands) (s : State) : (setRequest fc o s).rxBuf = s.rxBuf := rfl
@[simp] theorem setRequest_rxLen (fc : Byte) (o : BuildOperands) (s : State) : (setRequest fc o s).rxLen = s.rxLen := rfl
@[simp] theorem setRequest_rxValid (fc : Byte) (o : BuildOperands) (s : State) : (setRequest fc o s).rxValid = s.rxValid := rfl
@[simp] theorem setRequest_rspTid (fc : Byte) (o : BuildOperands) (s : State) : (setRequest fc o s).rspTid = s.rspTid := rfl
@[simp] theorem setRequest_rspPid (fc : Byte) (o : BuildOperands) (s : State) : (setRequest fc o s).rspPid = s.rspPid := rfl
@[simp] theorem setRequest_rspLen (fc : Byte) (o : BuildOperands) (s : State) : (setRequest fc o s).rspLen = s.rspLen := rfl
@[simp] theorem setRequest_rspUnit (fc : Byte) (o : BuildOperands) (s : State) : (setRequest fc o s).rspUnit = s.rspUnit := rfl
@[simp] theorem setRequest_rspFc (fc : Byte) (o : BuildOperands) (s : State) : (setRequest fc o s).rspFc = s.rspFc := rfl
@[simp] theorem setRequest_rspBc (fc : Byte) (o : BuildOperands) (s : State) : (setRequest fc o s).rspBc = s.rspBc := rfl
@[simp] theorem setRequest_rspData (fc : Byte) (o : BuildOperands) (s : State) : (setRequest fc o s).rspData = s.rspData := rfl
@[simp] theorem setRequest_rspValid (fc : Byte) (o : BuildOperands) (s : State) : (setRequest fc o s).rspValid = s.rspValid := rfl
@[simp] theorem setRequest_trail (fc : Byte) (o : BuildOperands) (s : State) : (setRequest fc o s).trail = s.trail := rfl
@[simp] theorem setRequest_err (fc : Byte) (o : BuildOperands) (s : State) : (setRequest fc o s).err = s.err := rfl
@[simp] theorem setRequest_errLog (fc : Byte) (o : BuildOperands) (s : State) : (setRequest fc o s).errLog = s.errLog := rfl
@[simp] theorem setRequest_free (fc : Byte) (o : BuildOperands) (s : State) : (setRequest fc o s).free = s.free := rfl
@[simp] theorem setRequest_enforceMaxima (fc : Byte) (o : BuildOperands) (s : State) : (setRequest fc o s).enforceMaxima = s.enforceMaxima := rfl
@[simp] theorem setRequest_inbox (fc : Byte) (o : BuildOperands) (s : State) : (setRequest fc o s).inbox = s.inbox := rfl
@[simp] theorem setRequest_waiting (fc : Byte) (o : BuildOperands) (s : State) : (setRequest fc o s).waiting = s.waiting := rfl
@[simp] theorem setRequest_rxQueue (fc : Byte) (o : BuildOperands) (s : State) : (setRequest fc o s).rxQueue = s.rxQueue := rfl
@[simp] theorem setRequest_peerClosed (fc : Byte) (o : BuildOperands) (s : State) : (setRequest fc o s).peerClosed = s.peerClosed := rfl
@[simp] theorem setRequest_connAnswers (fc : Byte) (o : BuildOperands) (s : State) : (setRequest fc o s).connAnswers = s.connAnswers := rfl
@[simp] theorem setRequest_transport (fc : Byte) (o : BuildOperands) (s : State) : (setRequest fc o s).transport = s.transport := rfl
@[simp] theorem setRequest_results (fc : Byte) (o : BuildOperands) (s : State) : (setRequest fc o s).results = s.results := rfl
@[simp] theorem setRequest_values (fc : Byte) (o : BuildOperands) (s : State) : (setRequest fc o s).values = s.values := rfl
@[simp] theorem setRequest_readOut (fc : Byte) (o : BuildOperands) (s : State) : (setRequest fc o s).readOut = s.readOut := rfl

/-! ### invalidateRequest -/

@[simp] theorem invalidateRequest_reqUnit (s : State) : (invalidateRequest s).reqUnit = Config.freeByte s.free := rfl
@[simp] theorem invalidateRequest_reqTid (s : State) : (invalidateRequest s).reqTid = Config.freeHalf (s.free + 1) := rfl
@[simp] theorem invalidateRequest_reqFc (s : State) : (invalidateRequest s).reqFc = Config.freeByte (s.free + 2) := rfl
@[simp] theorem invalidateRequest_reqAddr (s : State) : (invalidateRequest s).reqAddr = Config.freeHalf (s.free + 3) := rfl
@[simp] theorem invalidateRequest_reqQty (s : State) : (invalidateRequest s).reqQty = Config.freeHalf (s.free + 4) := rfl
@[simp] theorem invalidateRequest_reqValid (s : State) : (invalidateRequest s).reqValid = false := rfl
@[simp] theorem invalidateRequest_link (s : State) : (invalidateRequest s).link = s.link := rfl
@[simp] theorem invalidateRequest_connFail (s : State) : (invalidateRequest s).connFail = s.connFail := rfl
@[simp] theorem invalidateRequest_inFlight (s : State) : (invalidateRequest s).inFlight = s.inFlight := rfl
@[simp] theorem invalidateRequest_seqErr (s : State) : (invalidateRequest s).seqErr = s.seqErr := rfl
@[simp] theorem invalidateRequest_pend (s : State) : (invalidateRequest s).pend = s.pend := rfl
@[simp] theorem invalidateRequest_rxState (s : State) : (invalidateRequest s).rxState = s.rxState := rfl
@[simp] theorem invalidateRequest_rxNeed (s : State) : (invalidateRequest s).rxNeed = s.rxNeed := rfl
@[simp] theorem invalidateRequest_rxBuf (s : State) : (invalidateRequest s).rxBuf = s.rxBuf := rfl
@[simp] theorem invalidateRequest_rxLen (s : State) : (invalidateRequest s).rxLen = s.rxLen := rfl
@[simp] theorem invalidateRequest_rxValid (s : State) : (invalidateRequest s).rxValid = s.rxValid := rfl
@[simp] theorem invalidateRequest_rspTid (s : State) : (invalidateRequest s).rspTid = s.rspTid := rfl
@[simp] theorem invalidateRequest_rspPid (s : State) : (invalidateRequest s).rspPid = s.rspPid := rfl
@[simp] theorem invalidateRequest_rspLen (s : State) : (invalidateRequest s).rspLen = s.rspLen := rfl
@[simp] theorem invalidateRequest_rspUnit (s : State) : (invalidateRequest s).rspUnit = s.rspUnit := rfl
@[simp] theorem invalidateRequest_rspFc (s : State) : (invalidateRequest s).rspFc = s.rspFc := rfl
@[simp] theorem invalidateRequest_rspBc (s : State) : (invalidateRequest s).rspBc = s.rspBc := rfl
@[simp] theorem invalidateRequest_rspData (s : State) : (invalidateRequest s).rspData = s.rspData := rfl
@[simp] theorem invalidateRequest_rspValid (s : State) : (invalidateRequest s).rspValid = s.rspValid := rfl
@[simp] theorem invalidateRequest_trail (s : State) : (invalidateRequest s).trail = s.trail := rfl
@[simp] theorem invalidateRequest_err (s : State) : (invalidateRequest s).err = s.err := rfl
@[simp] theorem invalidateRequest_errLog (s : State) : (invalidateRequest s).errLog = s.errLog := rfl
@[simp] theorem invalidateRequest_free (s : State) : (invalidateRequest s).free = s.free + 5 := rfl
@[simp] theorem invalidateRequest_enforceMaxima (s : State) : (invalidateRequest s).enforceMaxima = s.enforceMaxima := rfl
@[simp] theorem invalidateRequest_inbox (s : State) : (invalidateRequest s).inbox = s.inbox := rfl
@[simp] theorem invalidateRequest_waiting (s : State) : (invalidateRequest s).waiting = s.waiting := rfl
@[simp] theorem invalidateRequest_rxQueue (s : State) : (invalidateRequest s).rxQueue = s.rxQueue := rfl
@[simp] theorem invalidateRequest_peerClosed (s : State) : (invalidateRequest s).peerClosed = s.peerClosed := rfl
@[simp] theorem invalidateRequest_connAnswers (s : State) : (invalidateRequest s).connAnswers = s.connAnswers := rfl
@[simp] theorem invalidateRequest_transport (s : State) : (invalidateRequest s).transport = s.transport := rfl
@[simp] theorem invalidateRequest_results (s : State) : (invalidateRequest s).results = s.results := rfl
@[simp] theorem invalidateRequest_values (s : State) : (invalidateRequest s).values = s.values := rfl
@[simp] theorem invalidateRequest_readOut (s : State) : (invalidateRequest s).readOut = s.readOut := rfl

/-! ### transmitRequest -/

@[simp] theorem transmitRequest_reqUnit (s : State) : (transmitRequest s).reqUnit = s.reqUnit := rfl
@[simp] theorem transmitRequest_reqTid (s : State) : (transmitRequest s).reqTid = s.reqTid := rfl
@[simp] theorem transmitRequest_reqFc (s : State) : (transmitRequest s).reqFc = s.reqFc := rfl
@[simp] theorem transmitRequest_reqAddr (s : State) : (transmitRequest s).reqAddr = s.reqAddr := rfl
@[simp] theorem transmitRequest_reqQty (s : State) : (transmitRequest s).reqQty = s.reqQty := rfl
@[simp] theorem transmitRequest_reqValid (s : State) : (transmitRequest s).reqValid = s.reqValid := rfl
@[simp] theorem transmitRequest_link (s : State) : (transmitRequest s).link = s.link := rfl
@[simp] theorem transmitRequest_connFail (s : State) : (transmitRequest s).connFail = s.connFail := rfl
@[simp] theorem transmitRequest_inFlight (s : State) : (transmitRequest s).inFlight = true := rfl
@[simp] theorem transmitRequest_seqErr (s : State) : (transmitRequest s).seqErr = seqErrAfterSend s := rfl
@[simp] theorem transmitRequest_pend (s : State) : (transmitRequest s).pend = s.pend := rfl
@[simp] theorem transmitRequest_rxState (s : State) : (transmitRequest s).rxState = s.rxState := rfl
@[simp] theorem transmitRequest_rxNeed (s : State) : (transmitRequest s).rxNeed = s.rxNeed := rfl
@[simp] theorem transmitRequest_rxBuf (s : State) : (transmitRequest s).rxBuf = s.rxBuf := rfl
@[simp] theorem transmitRequest_rxLen (s : State) : (transmitRequest s).rxLen = s.rxLen := rfl
@[simp] theorem transmitRequest_rxValid (s : State) : (transmitRequest s).rxValid = s.rxValid := rfl
@[simp] theorem transmitRequest_rspTid (s : State) : (transmitRequest s).rspTid = s.rspTid := rfl
@[simp] theorem transmitRequest_rspPid (s : State) : (transmitRequest s).rspPid = s.rspPid := rfl
@[simp] theorem transmitRequest_rspLen (s : State) : (transmitRequest s).rspLen = s.rspLen := rfl
@[simp] theorem transmitRequest_rspUnit (s : State) : (transmitRequest s).rspUnit = s.rspUnit := rfl
@[simp] theorem transmitRequest_rspFc (s : State) : (transmitRequest s).rspFc = s.rspFc := rfl
@[simp] theorem transmitRequest_rspBc (s : State) : (transmitRequest s).rspBc = s.rspBc := rfl
@[simp] theorem transmitRequest_rspData (s : State) : (transmitRequest s).rspData = s.rspData := rfl
@[simp] theorem transmitRequest_rspValid (s : State) : (transmitRequest s).rspValid = s.rspValid := rfl
@[simp] theorem transmitRequest_trail (s : State) : (transmitRequest s).trail = s.trail := rfl
@[simp] theorem transmitRequest_err (s : State) : (transmitRequest s).err = s.err := rfl
@[simp] theorem transmitRequest_errLog (s : State) : (transmitRequest s).errLog = s.errLog := rfl
@[simp] theorem transmitRequest_free (s : State) : (transmitRequest s).free = s.free := rfl
@[simp] theorem transmitRequest_enforceMaxima (s : State) : (transmitRequest s).enforceMaxima = s.enforceMaxima := rfl
@[simp] theorem transmitRequest_inbox (s : State) : (transmitRequest s).inbox = s.inbox := rfl
@[simp] theorem transmitRequest_waiting (s : State) : (transmitRequest s).waiting = s.waiting := rfl
@[simp] theorem transmitRequest_rxQueue (s : State) : (transmitRequest s).rxQueue = s.rxQueue := rfl
@[simp] theorem transmitRequest_peerClosed (s : State) : (transmitRequest s).peerClosed = s.peerClosed := rfl
@[simp] theorem transmitRequest_connAnswers (s : State) : (transmitRequest s).connAnswers = s.connAnswers := rfl
@[simp] theorem transmitRequest_transport (s : State) : (transmitRequest s).transport = s.transport ++ [.push (txbuf s)] := rfl
@[simp] theorem transmitRequest_results (s : State) : (transmitRequest s).results = s.results := rfl
@[simp] theorem transmitRequest_values (s : State) : (transmitRequest s).values = s.values := rfl
@[simp] theorem transmitRequest_readOut (s : State) : (transmitRequest s).readOut = s.readOut := rfl

/-! ### armReceive -/

@[simp] theorem armReceive_reqUnit (p : Pend) (s : State) : (armReceive p s).reqUnit = s.reqUnit := rfl
@[simp] theorem armReceive_reqTid (p : Pend) (s : State) : (armReceive p s).reqTid = s.reqTid := rfl
@[simp] theorem armReceive_reqFc (p : Pend) (s : State) : (armReceive p s).reqFc = s.reqFc := rfl
@[simp] theorem armReceive_reqAddr (p : Pend) (s : State) : (armReceive p s).reqAddr = s.reqAddr := rfl
@[simp] theorem armReceive_reqQty (p : Pend) (s : State) : (armReceive p s).reqQty = s.reqQty := rfl
@[simp] theorem armReceive_reqValid (p : Pend) (s : State) : (armReceive p s).reqValid = s.reqValid := rfl
@[simp] theorem armReceive_link (p : Pend) (s : State) : (armReceive p s).link = s.link := rfl
@[simp] theorem armReceive_connFail (p : Pend) (s : State) : (armReceive p s).connFail = s.connFail := rfl
@[simp] theorem armReceive_inFlight (p : Pend) (s : State) : (armReceive p s).inFlight = s.inFlight := rfl
@[simp] theorem armReceive_seqErr (p : Pend) (s : State) : (armReceive p s).seqErr = s.seqErr := rfl
@[simp] theorem armReceive_pend (p : Pend) (s : State) : (armReceive p s).pend = p := rfl
@[simp] theorem armReceive_rxState (p : Pend) (s : State) : (armReceive p s).rxState = .hdr := rfl
@[simp] theorem armReceive_rxNeed (p : Pend) (s : State) : (armReceive p s).rxNeed = 7 := rfl
@[simp] theorem armReceive_rxBuf (p : Pend) (s : State) : (armReceive p s).rxBuf = [] := rfl
@[simp] theorem armReceive_rxLen (p : Pend) (s : State) : (armReceive p s).rxLen = 0 := rfl
@[simp] theorem armReceive_rxValid (p : Pend) (s : State) : (armReceive p s).rxValid = false := rfl
@[simp] theorem armReceive_rspTid (p : Pend) (s : State) : (armReceive p s).rspTid = s.rspTid := rfl
@[simp] theorem armReceive_rspPid (p : Pend) (s : State) : (armReceive p s).rspPid = s.rspPid := rfl
@[simp] theorem armReceive_rspLen (p : Pend) (s : State) : (armReceive p s).rspLen = s.rspLen := rfl
@[simp] theorem armReceive_rspUnit (p : Pend) (s : State) : (armReceive p s).rspUnit = s.rspUnit := rfl
@[simp] theorem armReceive_rspFc (p : Pend) (s : State) : (armReceive p s).rspFc = s.rspFc := rfl
@[simp] theorem armReceive_rspBc (p : Pend) (s : State) : (armReceive p s).rspBc = s.rspBc := rfl
@[simp] theorem armReceive_rspData (p : Pend) (s : State) : (armReceive p s).rspData = s.rspData := rfl
@[simp] theorem armReceive_rspValid (p : Pend) (s : State) : (armReceive p s).rspValid = s.rspValid := rfl
@[simp] theorem armReceive_trail (p : Pend) (s : State) : (armReceive p s).trail = s.trail := rfl
@[simp] theorem armReceive_err (p : Pend) (s : State) : (armReceive p s).err = s.err := rfl
@[simp] theorem armReceive_errLog (p : Pend) (s : State) : (armReceive p s).errLog = s.errLog := rfl
@[simp] theorem armReceive_free (p : Pend) (s : State) : (armReceive p s).free = s.free := rfl
@[simp] theorem armReceive_enforceMaxima (p : Pend) (s : State) : (armReceive p s).enforceMaxima = s.enforceMaxima := rfl
@[simp] theorem armReceive_inbox (p : Pend) (s : State) : (armReceive p s).inbox = s.inbox := rfl
@[simp] theorem armReceive_waiting (p : Pend) (s : State) : (armReceive p s).waiting = s.waiting := rfl
@[simp] theorem armReceive_rxQueue (p : Pend) (s : State) : (armReceive p s).rxQueue = s.rxQueue := rfl
@[simp] theorem armReceive_peerClosed (p : Pend) (s : State) : (armReceive p s).peerClosed = s.peerClosed := rfl
@[simp] theorem armReceive_connAnswers (p : Pend) (s : State) : (armReceive p s).connAnswers = s.connAnswers := rfl
@[simp] theorem armReceive_transport (p : Pend) (s : State) : (armReceive p s).transport = s.transport := rfl
@[simp] theorem armReceive_results (p : Pend) (s : State) : (armReceive p s).results = s.results := rfl
@[simp] theorem armReceive_values (p : Pend) (s : State) : (armReceive p s).values = s.values := rfl
@[simp] theorem armReceive_readOut (p : Pend) (s : State) : (armReceive p s).readOut = s.readOut := rfl

/-! ### stopReceive -/

@[simp] theorem stopReceive_reqUnit (s : State) : (stopReceive s).reqUnit = s.reqUnit := rfl
@[simp] theorem stopReceive_reqTid (s : State) : (stopReceive s).reqTid = s.reqTid := rfl
@[simp] theorem stopReceive_reqFc (s : State) : (stopReceive s).reqFc = s.reqFc := rfl
@[simp] theorem stopReceive_reqAddr (s : State) : (stopReceive s).reqAddr = s.reqAddr := rfl
@[simp] theorem stopReceive_reqQty (s : State) : (stopReceive s).reqQty = s.reqQty := rfl
@[simp] theorem stopReceive_reqValid (s : State) : (stopReceive s).reqValid = s.reqValid := rfl
@[simp] theorem stopReceive_link (s : State) : (stopReceive s).link = s.link := rfl
@[simp] theorem stopReceive_connFail (s : State) : (stopReceive s).connFail = s.connFail := rfl
@[simp] theorem stopReceive_inFlight (s : State) : (stopReceive s).inFlight = s.inFlight := rfl
@[simp] theorem stopReceive_seqErr (s : State) : (stopReceive s).seqErr = s.seqErr := rfl
@[simp] theorem stopReceive_pend (s : State) : (stopReceive s).pend = s.pend := rfl
@[simp] theorem stopReceive_rxState (s : State) : (stopReceive s).rxState = .idle := rfl
@[simp] theorem stopReceive_rxNeed (s : State) : (stopReceive s).rxNeed = 0 := rfl
@[simp] theorem stopReceive_rxBuf (s : State) : (stopReceive s).rxBuf = s.rxBuf := rfl
@[simp] theorem stopReceive_rxLen (s : State) : (stopReceive s).rxLen = s.rxLen := rfl
@[simp] theorem stopReceive_rxValid (s : State) : (stopReceive s).rxValid = s.rxValid := rfl
@[simp] theorem stopReceive_rspTid (s : State) : (stopReceive s).rspTid = s.rspTid := rfl
@[simp] theorem stopReceive_rspPid (s : State) : (stopReceive s).rspPid = s.rspPid := rfl
@[simp] theorem stopReceive_rspLen (s : State) : (stopReceive s).rspLen = s.rspLen := rfl
@[simp] theorem stopReceive_rspUnit (s : State) : (stopReceive s).rspUnit = s.rspUnit := rfl
@[simp] theorem stopReceive_rspFc (s : State) : (stopReceive s).rspFc = s.rspFc := rfl
@[simp] theorem stopReceive_rspBc (s : State) : (stopReceive s).rspBc = s.rspBc := rfl
@[simp] theorem stopReceive_rspData (s : State) : (stopReceive s).rspData = s.rspData := rfl
@[simp] theorem stopReceive_rspValid (s : State) : (stopReceive s).rspValid = s.rspValid := rfl
@[simp] theorem stopReceive_trail (s : State) : (stopReceive s).trail = s.trail := rfl
@[simp] theorem stopReceive_err (s : State) : (stopReceive s).err = s.err := rfl
@[simp] theorem stopReceive_errLog (s : State) : (stopReceive s).errLog = s.errLog := rfl
@[simp] theorem stopReceive_free (s : State) : (stopReceive s).free = s.free := rfl
@[simp] theorem stopReceive_enforceMaxima (s : State) : (stopReceive s).enforceMaxima = s.enforceMaxima := rfl
@[simp] theorem stopReceive_inbox (s : State) : (stopReceive s).inbox = s.inbox := rfl
@[simp] theorem stopReceive_waiting (s : State) : (stopReceive s).waiting = s.waiting := rfl
@[simp] theorem stopReceive_rxQueue (s : State) : (stopReceive s).rxQueue = s.rxQueue := rfl
@[simp] theorem stopReceive_peerClosed (s : State) : (stopReceive s).peerClosed = s.peerClosed := rfl
@[simp] theorem stopReceive_connAnswers (s : State) : (stopReceive s).connAnswers = s.connAnswers := rfl
@[simp] theorem stopReceive_transport (s : State) : (stopReceive s).transport = s.transport := rfl
@[simp] theorem stopReceive_results (s : State) : (stopReceive s).results = s.results := rfl
@[simp] theorem stopReceive_values (s : State) : (stopReceive s).values = s.values := rfl
@[simp] theorem stopReceive_readOut (s : State) : (stopReceive s).readOut = s.readOut := rfl

/-! ### setResponse -/

@[simp] theorem setResponse_reqUnit (r : Response) (s : State) : (setResponse r s).reqUnit = s.reqUnit := rfl
@[simp] theorem setResponse_reqTid (r : Response) (s : State) : (setResponse r s).reqTid = s.reqTid := rfl
@[simp] theorem setResponse_reqFc (r : Response) (s : State) : (setResponse r s).reqFc = s.reqFc := rfl
@[simp] theorem setResponse_reqAddr (r : Response) (s : State) : (setResponse r s).reqAddr = s.reqAddr := rfl
@[simp] theorem setResponse_reqQty (r : Response) (s : State) : (setResponse r s).reqQty = s.reqQty := rfl
@[simp] theorem setResponse_reqValid (r : Response) (s : State) : (setResponse r s).reqValid = s.reqValid := rfl
@[simp] theorem setResponse_link (r : Response) (s : State) : (setResponse r s).link = s.link := rfl
@[simp] theorem setResponse_connFail (r : Response) (s : State) : (setResponse r s).connFail = s.connFail := rfl
@[simp] theorem setResponse_inFlight (r : Response) (s : State) : (setResponse r s).inFlight = s.inFlight := rfl
@[simp] theorem setResponse_seqErr (r : Response) (s : State) : (setResponse r s).seqErr = s.seqErr := rfl
@[simp] theorem setResponse_pend (r : Response) (s : State) : (setResponse r s).pend = s.pend := rfl
@[simp] theorem setResponse_rxState (r : Response) (s : State) : (setResponse r s).rxState = s.rxState := rfl
@[simp] theorem setResponse_rxNeed (r : Response) (s : State) : (setResponse r s).rxNeed = s.rxNeed := rfl
@[simp] theorem setResponse_rxBuf (r : Response) (s : State) : (setResponse r s).rxBuf = s.rxBuf := rfl
@[simp] theorem setResponse_rxLen (r : Response) (s : State) : (setResponse r s).rxLen = s.rxLen := rfl
@[simp] theorem setResponse_rxValid (r : Response) (s : State) : (setResponse r s).rxValid = s.rxValid := rfl
@[simp] theorem setResponse_rspTid (r : Response) (s : State) : (setResponse r s).rspTid = r.tid := rfl
@[simp] theorem setResponse_rspPid (r : Response) (s : State) : (setResponse r s).rspPid = r.pid := rfl
@[simp] theorem setResponse_rspLen (r : Response) (s : State) : (setResponse r s).rspLen = r.len := rfl
@[simp] theorem setResponse_rspUnit (r : Response) (s : State) : (setResponse r s).rspUnit = r.unit := rfl
@[simp] theorem setResponse_rspFc (r : Response) (s : State) : (setResponse r s).rspFc = r.fc := rfl
@[simp] theorem setResponse_rspBc (r : Response) (s : State) : (setResponse r s).rspBc = r.bc := rfl
@[simp] theorem setResponse_rspData (r : Response) (s : State) : (setResponse r s).rspData = Memory.writeBytes [] 0 r.data := rfl
@[simp] theorem setResponse_rspValid (r : Response) (s : State) : (setResponse r s).rspValid = true := rfl
@[simp] theorem setResponse_trail (r : Response) (s : State) : (setResponse r s).trail = r.trail := rfl
@[simp] theorem setResponse_err (r : Response) (s : State) : (setResponse r s).err = s.err := rfl
@[simp] theorem setResponse_errLog (r : Response) (s : State) : (setResponse r s).errLog = s.errLog := rfl
@[simp] theorem setResponse_free (r : Response) (s : State) : (setResponse r s).free = s.free := rfl
@[simp] theorem setResponse_enforceMaxima (r : Response) (s : State) : (setResponse r s).enforceMaxima = s.enforceMaxima := rfl
@[simp] theorem setResponse_inbox (r : Response) (s : State) : (setResponse r s).inbox = s.inbox := rfl
@[simp] theorem setResponse_waiting (r : Response) (s : State) : (setResponse r s).waiting = s.waiting := rfl
@[simp] theorem setResponse_rxQueue (r : Response) (s : State) : (setResponse r s).rxQueue = s.rxQueue := rfl
@[simp] theorem setResponse_peerClosed (r : Response) (s : State) : (setResponse r s).peerClosed = s.peerClosed := rfl
@[simp] theorem setResponse_connAnswers (r : Response) (s : State) : (setResponse r s).connAnswers = s.connAnswers := rfl
@[simp] theorem setResponse_transport (r : Response) (s : State) : (setResponse r s).transport = s.transport := rfl
@[simp] theorem setResponse_results (r : Response) (s : State) : (setResponse r s).results = s.results := rfl
@[simp] theorem setResponse_values (r : Response) (s : State) : (setResponse r s).values = s.values := rfl
@[simp] theorem setResponse_readOut (r : Response) (s : State) : (setResponse r s).readOut = s.readOut := rfl

/-! ### invalidateResponse -/

@[simp] theorem invalidateResponse_reqUnit (s : State) : (invalidateResponse s).reqUnit = s.reqUnit := rfl
@[simp] theorem invalidateResponse_reqTid (s : State) : (invalidateResponse s).reqTid = s.reqTid := rfl
@[simp] theorem invalidateResponse_reqFc (s : State) : (invalidateResponse s).reqFc = s.reqFc := rfl
@[simp] theorem invalidateResponse_reqAddr (s : State) : (invalidateResponse s).reqAddr = s.reqAddr := rfl
@[simp] theorem invalidateResponse_reqQty (s : State) : (invalidateResponse s).reqQty = s.reqQty := rfl
@[simp] theorem invalidateResponse_reqValid (s : State) : (invalidateResponse s).reqValid = s.reqValid := rfl
@[simp] theorem invalidateResponse_link (s : State) : (invalidateResponse s).link = s.link := rfl
@[simp] theorem invalidateResponse_connFail (s : State) : (invalidateResponse s).connFail = s.connFail := rfl
@[simp] theorem invalidateResponse_inFlight (s : State) : (invalidateResponse s).inFlight = s.inFlight := rfl
@[simp] theorem invalidateResponse_seqErr (s : State) : (invalidateResponse s).seqErr = s.seqErr := rfl
@[simp] theorem invalidateResponse_pend (s : State) : (invalidateResponse s).pend = s.pend := rfl
@[simp] theorem invalidateResponse_rxState (s : State) : (invalidateResponse s).rxState = s.rxState := rfl
@[simp] theorem invalidateResponse_rxNeed (s : State) : (invalidateResponse s).rxNeed = s.rxNeed := rfl
@[simp] theorem invalidateResponse_rxBuf (s : State) : (invalidateResponse s).rxBuf = s.rxBuf := rfl
@[simp] theorem invalidateResponse_rxLen (s : State) : (invalidateResponse s).rxLen = s.rxLen := rfl
@[simp] theorem invalidateResponse_rxValid (s : State) : (invalidateResponse s).rxValid = s.rxValid := rfl
@[simp] theorem invalidateResponse_rspTid (s : State) : (invalidateResponse s).rspTid = Config.freeHalf s.free := rfl
@[simp] theorem invalidateResponse_rspPid (s : State) : (invalidateResponse s).rspPid = Config.freeHalf (s.free + 1) := rfl
@[simp] theorem invalidateResponse_rspLen (s : State) : (invalidateResponse s).rspLen = Config.freeHalf (s.free + 2) := rfl
@[simp] theorem invalidateResponse_rspUnit (s : State) : (invalidateResponse s).rspUnit = Config.freeByte (s.free + 3) := rfl
@[simp] theorem invalidateResponse_rspFc (s : State) : (invalidateResponse s).rspFc = Config.freeByte (s.free + 4) := rfl
@[simp] theorem invalidateResponse_rspBc (s : State) : (invalidateResponse s).rspBc = Config.freeByte (s.free + 5) := rfl
@[simp] theorem invalidateResponse_rspData (s : State) : (invalidateResponse s).rspData = [] := rfl
@[simp] theorem invalidateResponse_rspValid (s : State) : (invalidateResponse s).rspValid = false := rfl
@[simp] theorem invalidateResponse_trail (s : State) : (invalidateResponse s).trail = false := rfl
@[simp] theorem invalidateResponse_err (s : State) : (invalidateResponse s).err = s.err := rfl
@[simp] theorem invalidateResponse_errLog (s : State) : (invalidateResponse s).errLog = s.errLog := rfl
@[simp] theorem invalidateResponse_free (s : State) : (invalidateResponse s).free = s.free + 6 := rfl
@[simp] theorem invalidateResponse_enforceMaxima (s : State) : (invalidateResponse s).enforceMaxima = s.enforceMaxima := rfl
@[simp] theorem invalidateResponse_inbox (s : State) : (invalidateResponse s).inbox = s.inbox := rfl
@[simp] theorem invalidateResponse_waiting (s : State) : (invalidateResponse s).waiting = s.waiting := rfl
@[simp] theorem invalidateResponse_rxQueue (s : State) : (invalidateResponse s).rxQueue = s.rxQueue := rfl
@[simp] theorem invalidateResponse_peerClosed (s : State) : (invalidateResponse s).peerClosed = s.peerClosed := rfl
@[simp] theorem invalidateResponse_connAnswers (s : State) : (invalidateResponse s).connAnswers = s.connAnswers := rfl
@[simp] theorem invalidateResponse_transport (s : State) : (invalidateResponse s).transport = s.transport := rfl
@[simp] theorem invalidateResponse_results (s : State) : (invalidateResponse s).results = s.results := rfl
@[simp] theorem invalidateResponse_values (s : State) : (invalidateResponse s).values = s.values := rfl
@[simp] theorem invalidateResponse_readOut (s : State) : (invalidateResponse s).readOut = s.readOut := rfl

/-! ### resetBlock -/

@[simp] theorem resetBlock_reqUnit (s : State) : (resetBlock s).reqUnit = 0 := rfl
@[simp] theorem resetBlock_reqTid (s : State) : (resetBlock s).reqTid = 0 := rfl
@[simp] theorem resetBlock_reqFc (s : State) : (resetBlock s).reqFc = 0 := rfl
@[simp] theorem resetBlock_reqAddr (s : State) : (resetBlock s).reqAddr = 0 := rfl
@[simp] theorem resetBlock_reqQty (s : State) : (resetBlock s).reqQty = 0 := rfl
@[simp] theorem resetBlock_reqValid (s : State) : (resetBlock s).reqValid = false := rfl
@[simp] theorem resetBlock_link (s : State) : (resetBlock s).link = false := rfl
@[simp] theorem resetBlock_connFail (s : State) : (resetBlock s).connFail = false := rfl
@[simp] theorem resetBlock_inFlight (s : State) : (resetBlock s).inFlight = false := rfl
@[simp] theorem resetBlock_seqErr (s : State) : (resetBlock s).seqErr = false := rfl
@[simp] theorem resetBlock_pend (s : State) : (resetBlock s).pend = .none := rfl
@[simp] theorem resetBlock_rxState (s : State) : (resetBlock s).rxState = .idle := rfl
@[simp] theorem resetBlock_rxNeed (s : State) : (resetBlock s).rxNeed = 0 := rfl
@[simp] theorem resetBlock_rxBuf (s : State) : (resetBlock s).rxBuf = [] := rfl
@[simp] theorem resetBlock_rxLen (s : State) : (resetBlock s).rxLen = 0 := rfl
@[simp] theorem resetBlock_rxValid (s : State) : (resetBlock s).rxValid = false := rfl
@[simp] theorem resetBlock_rspTid (s : State) : (resetBlock s).rspTid = 0 := rfl
@[simp] theorem resetBlock_rspPid (s : State) : (resetBlock s).rspPid = 0 := rfl
@[simp] theorem resetBlock_rspLen (s : State) : (resetBlock s).rspLen = 0 := rfl
@[simp] theorem resetBlock_rspUnit (s : State) : (resetBlock s).rspUnit = 0 := rfl
@[simp] theorem resetBlock_rspFc (s : State) : (resetBlock s).rspFc = 0 := rfl
@[simp] theorem resetBlock_rspBc (s : State) : (resetBlock s).rspBc = 0 := rfl
@[simp] theorem resetBlock_rspData (s : State) : (resetBlock s).rspData = [] := rfl
@[simp] theorem resetBlock_rspValid (s : State) : (resetBlock s).rspValid = false := rfl
@[simp] theorem resetBlock_trail (s : State) : (resetBlock s).trail = false := rfl
@[simp] theorem resetBlock_err (s : State) : (resetBlock s).err = 0 := rfl
@[simp] theorem resetBlock_errLog (s : State) : (resetBlock s).errLog = 0 := rfl
@[simp] theorem resetBlock_free (s : State) : (resetBlock s).free = s.free := by
  unfold resetBlock; split <;> rfl
@[simp] theorem resetBlock_enforceMaxima (s : State) : (resetBlock s).enforceMaxima = s.enforceMaxima := by
  unfold resetBlock; split <;> rfl
@[simp] theorem resetBlock_inbox (s : State) : (resetBlock s).inbox = s.inbox := by
  unfold resetBlock; split <;> rfl
@[simp] theorem resetBlock_waiting (s : State) : (resetBlock s).waiting = s.waiting := by
  unfold resetBlock; split <;> rfl
@[simp] theorem resetBlock_rxQueue (s : State) : (resetBlock s).rxQueue = if s.link then [] else s.rxQueue := by
  unfold resetBlock; split <;> rfl
@[simp] theorem resetBlock_peerClosed (s : State) :
    (resetBlock s).peerClosed = if s.link then false else s.peerClosed := by
  unfold resetBlock; split <;> rfl
@[simp] theorem resetBlock_connAnswers (s : State) : (resetBlock s).connAnswers = s.connAnswers := by
  unfold resetBlock; split <;> rfl
@[simp] theorem resetBlock_transport (s : State) :
    (resetBlock s).transport = if s.link then s.transport ++ [.close] else s.transport := by
  unfold resetBlock; split <;> rfl
@[simp] theorem resetBlock_results (s : State) : (resetBlock s).results = s.results := by
  unfold resetBlock; split <;> rfl
@[simp] theorem resetBlock_values (s : State) : (resetBlock s).values = s.values := by
  unfold resetBlock; split <;> rfl
@[simp] theorem resetBlock_readOut (s : State) : (resetBlock s).readOut = s.readOut := by
  unfold resetBlock; split <;> rfl

/-! ### connectReq -/

@[simp] theorem connectReq_reqUnit (s : State) : (connectReq s).reqUnit = s.reqUnit := by unfold connectReq; split <;> rfl
@[simp] theorem connectReq_reqTid (s : State) : (connectReq s).reqTid = s.reqTid := by unfold connectReq; split <;> rfl
@[simp] theorem connectReq_reqFc (s : State) : (connectReq s).reqFc = s.reqFc := by unfold connectReq; split <;> rfl
@[simp] theorem connectReq_reqAddr (s : State) : (connectReq s).reqAddr = s.reqAddr := by unfold connectReq; split <;> rfl
@[simp] theorem connectReq_reqQty (s : State) : (connectReq s).reqQty = s.reqQty := by unfold connectReq; split <;> rfl
@[simp] theorem connectReq_reqValid (s : State) : (connectReq s).reqValid = s.reqValid := by unfold connectReq; split <;> rfl
@[simp] theorem connectReq_link (s : State) : (connectReq s).link = s.link := by unfold connectReq; split <;> rfl
@[simp] theorem connectReq_connFail (s : State) : (connectReq s).connFail = s.connFail := by unfold connectReq; split <;> rfl
@[simp] theorem connectReq_inFlight (s : State) : (connectReq s).inFlight = s.inFlight := by unfold connectReq; split <;> rfl
@[simp] theorem connectReq_seqErr (s : State) : (connectReq s).seqErr = s.seqErr := by unfold connectReq; split <;> rfl
@[simp] theorem connectReq_pend (s : State) : (connectReq s).pend = s.pend := by unfold connectReq; split <;> rfl
@[simp] theorem connectReq_rxState (s : State) : (connectReq s).rxState = s.rxState := by unfold connectReq; split <;> rfl
@[simp] theorem connectReq_rxNeed (s : State) : (connectReq s).rxNeed = s.rxNeed := by unfold connectReq; split <;> rfl
@[simp] theorem connectReq_rxBuf (s : State) : (connectReq s).rxBuf = s.rxBuf := by unfold connectReq; split <;> rfl
@[simp] theorem connectReq_rxLen (s : State) : (connectReq s).rxLen = s.rxLen := by unfold connectReq; split <;> rfl
@[simp] theorem connectReq_rxValid (s : State) : (connectReq s).rxValid = s.rxValid := by unfold connectReq; split <;> rfl
@[simp] theorem connectReq_rspTid (s : State) : (connectReq s).rspTid = s.rspTid := by unfold connectReq; split <;> rfl
@[simp] theorem connectReq_rspPid (s : State) : (connectReq s).rspPid = s.rspPid := by unfold connectReq; split <;> rfl
@[simp] theorem connectReq_rspLen (s : State) : (connectReq s).rspLen = s.rspLen := by unfold connectReq; split <;> rfl
@[simp] theorem connectReq_rspUnit (s : State) : (connectReq s).rspUnit = s.rspUnit := by unfold connectReq; split <;> rfl
@[simp] theorem connectReq_rspFc (s : State) : (connectReq s).rspFc = s.rspFc := by unfold connectReq; split <;> rfl
@[simp] theorem connectReq_rspBc (s : State) : (connectReq s).rspBc = s.rspBc := by unfold connectReq; split <;> rfl
@[simp] theorem connectReq_rspData (s : State) : (connectReq s).rspData = s.rspData := by unfold connectReq; split <;> rfl
@[simp] theorem connectReq_rspValid (s : State) : (connectReq s).rspValid = s.rspValid := by unfold connectReq; split <;> rfl
@[simp] theorem connectReq_trail (s : State) : (connectReq s).trail = s.trail := by unfold connectReq; split <;> rfl
@[simp] theorem connectReq_err (s : State) : (connectReq s).err = s.err := by unfold connectReq; split <;> rfl
@[simp] theorem connectReq_errLog (s : State) : (connectReq s).errLog = s.errLog := by unfold connectReq; split <;> rfl
@[simp] theorem connectReq_free (s : State) : (connectReq s).free = if s.connAnswers = [] then s.free + 1 else s.free := by
  unfold connectReq; split <;> simp_all
@[simp] theorem connectReq_enforceMaxima (s : State) : (connectReq s).enforceMaxima = s.enforceMaxima := by unfold connectReq; split <;> rfl
@[simp] theorem connectReq_inbox (s : State) : (connectReq s).inbox = s.inbox := by unfold connectReq; split <;> rfl
@[simp] theorem connectReq_waiting (s : State) : (connectReq s).waiting = s.waiting := by unfold connectReq; split <;> rfl
@[simp] theorem connectReq_rxQueue (s : State) : (connectReq s).rxQueue = s.rxQueue := by unfold connectReq; split <;> rfl
@[simp] theorem connectReq_peerClosed (s : State) : (connectReq s).peerClosed = s.peerClosed := by unfold connectReq; split <;> rfl
@[simp] theorem connectReq_connAnswers (s : State) : (connectReq s).connAnswers = s.connAnswers.tail := by
  unfold connectReq; split <;> simp_all
@[simp] theorem connectReq_transport (s : State) : (connectReq s).transport = s.transport ++ [.connect] := by
  unfold connectReq; split <;> rfl
@[simp] theorem connectReq_results (s : State) : (connectReq s).results = s.results := by unfold connectReq; split <;> rfl
@[simp] theorem connectReq_values (s : State) : (connectReq s).values = s.values := by unfold connectReq; split <;> rfl
@[simp] theorem connectReq_readOut (s : State) : (connectReq s).readOut = s.readOut := by unfold connectReq; split <;> rfl

end Sys2Proof.Machine
end

