-- ==== Sys2Proof/Laws/Ops.lean ====
section
/-! SUPPORT. For each shared operation, once, everything it can do: if it answers a next state, then which. -/

namespace Sys2Proof.Machine

@[simp] theorem stickyBit_ok : stickyBit .ok = 0 := rfl

/-- A success completion leaves ERRLOG alone (R262). -/
@[simp] theorem complete_ok_errLog (sub : BitVec 4) (res : Word32) (s : State) : (complete .ok sub res s).errLog = s.errLog := by
  simp

/-- The hold: the body runs while nothing is pending, nothing changes otherwise. -/
theorem whenFree_next (s t : State) (body : State → Result) (h : whenFree s body = .next t) :
    (s.pend = .none ∧ body s = .next t) ∨ (s.pend ≠ .none ∧ t = s) := by
  unfold whenFree at h; split at h
  · exact .inl ⟨‹_›, h⟩
  · cases h; exact .inr ⟨‹_›, rfl⟩

theorem whenFree_free (s : State) (body : State → Result) (h : s.pend = .none) : whenFree s body = body s := if_pos h

theorem whenFree_held (s : State) (body : State → Result) (h : s.pend ≠ .none) : whenFree s body = .next s := if_neg h

@[simp] theorem andThen_of_next (s : State) (f : State → Result) : andThen (.next s) f = f s := rfl

/-- A sequence that answers a next state has one in between. -/
theorem andThen_next (r : Result) (f : State → Result) (t : State) (h : andThen r f = .next t) :
    ∃ u, r = .next u ∧ f u = .next t := by
  unfold andThen at h
  split at h
  · exact ⟨_, rfl, h⟩
  · cases h
  · cases h

/-- LOADF: refused as illegal, or the payload as the frame. -/
theorem loadFrame_next (n : BitVec 24) (p : List Byte) (s t : State) (h : loadFrame n p s = .next t) :
    (Config.rxCap < n.toNat ∧ t = raiseFailure .illegalCommand 2 s) ∨
    (n.toNat ≤ Config.rxCap ∧ p.length ≤ Config.rxCap ∧
      t = complete .ok 0 (n.setWidth 32)
        { s with rxBuf := Memory.writeBytes [] 0 p, rxLen := BitVec.ofNat 17 n.toNat, rxValid := true }) := by
  unfold loadFrame at h
  split at h
  · cases h; exact .inl ⟨‹_›, rfl⟩
  · split at h
    · cases h
    · next hm =>
      obtain ⟨hl, rfl⟩ := (writeBuffer_eq_some ..).1 hm
      cases h
      exact .inr ⟨by omega, by omega, rfl⟩

/-- DECODE's body: the precondition's failure, or what it makes of the frame in RXBUF. -/
theorem decodeResponseFrame_next (s t : State) (h : decodeResponseFrame s = .next t) :
    (s.rxValid = false ∧ t = raiseFailure .precondition 1 s) ∨
    (s.rxValid = true ∧ ∃ f, s.rxBuf.readBytes 0 s.rxLen.toNat = some f ∧ t = applyFrame f s) := by
  unfold decodeResponseFrame at h
  split at h
  · cases h; exact .inl ⟨‹_›, rfl⟩
  · next hv =>
    split at h
    · cases h
    · next f hf => cases h; exact .inr ⟨by simpa using hv, f, hf, rfl⟩

/-- A frame is a failure of three kinds, or a Response with its fields (R171). -/
theorem parseFrame_cases (f : List Byte) :
    (f.length < 9 ∧ parseFrame f = .error (.malformedFrame, 0)) ∨
    (9 ≤ f.length ∧ f.length ≠ (be16 f 4).toNat + 6 ∧ parseFrame f = .error (.structuralMismatch, 0)) ∨
    (9 ≤ f.length ∧ f.length = (be16 f 4).toNat + 6 ∧ f.length - 9 < (byteAt f 8).toNat ∧
      parseFrame f = .error (.structuralMismatch, 1)) ∨
    (9 ≤ f.length ∧ f.length = (be16 f 4).toNat + 6 ∧ (byteAt f 8).toNat ≤ f.length - 9 ∧
      parseFrame f = .ok
        { tid := be16 f 0, pid := be16 f 2, len := be16 f 4, unit := byteAt f 6, fc := byteAt f 7, bc := byteAt f 8,
          data := (f.drop 9).take (byteAt f 8).toNat, trail := decide ((byteAt f 8).toNat < f.length - 9) }) := by
  have hdrop : ∀ i, byteAt (f.drop 7) i = byteAt f (7 + i) := fun i => by
    simp [byteAt, List.getD_eq_getElem?_getD, List.getElem?_drop]
  unfold parseFrame expectedFrameSize
  simp only [hdrop, List.drop_drop, List.length_drop, List.length_take, Nat.reduceAdd]
  by_cases h1 : f.length < 9
  · simp [h1]
  · rw [if_neg h1, if_neg (by omega)]
    by_cases h2 : f.length = (be16 f 4).toNat + 6
    · rw [if_neg (by simpa using h2)]
      by_cases h3 : f.length - 9 < (byteAt f 8).toNat
      · rw [if_pos (by omega)]
        exact .inr (.inr (.inl ⟨by omega, h2, h3, rfl⟩))
      · rw [if_neg (by omega)]
        exact .inr (.inr (.inr ⟨by omega, h2, by omega, rfl⟩))
    · rw [if_pos h2]
      exact .inr (.inl ⟨by omega, h2, rfl⟩)

/-- What DECODE makes of a frame. -/
theorem applyFrame_cases (f : List Byte) (s : State) :
    (∃ k sub, parseFrame f = .error (k, sub) ∧ applyFrame f s = raiseFailure k sub (invalidateResponse s)) ∨
    (∃ r, parseFrame f = .ok r ∧ applyFrame f s = complete .ok 0 (r.bc.setWidth 32) (setResponse r s)) := by
  unfold applyFrame
  split
  · next k sub h => exact .inl ⟨k, sub, h, rfl⟩
  · next r h => exact .inr ⟨r, h, rfl⟩

/-- The state of a completed frame, before the pending command ends. -/
abbrev completedFrame (s : State) : State :=
  { s with rxState := .idle, rxNeed := 0, rxValid := true, inFlight := false }

/-- frame-complete, by the pending command. -/
theorem frameComplete_next (s t : State) (h : frameComplete s = .next t) :
    (s.pend = .none ∧ t = completedFrame s) ∨
    (s.pend = .recv ∧ t = complete .ok 0 (s.rxLen.setWidth 32) (completedFrame s)) ∨
    (s.pend = .read ∧ decodeResponseFrame { completedFrame s with pend := .none } = .next t) := by
  unfold frameComplete at h
  simp only at h
  split at h
  · cases h; exact .inl ⟨‹_›, rfl⟩
  · cases h; exact .inr (.inl ⟨‹_›, rfl⟩)
  · exact .inr (.inr ⟨‹_›, h⟩)

/-- header-complete: the frame is complete, or the body is armed. -/
theorem headerComplete_next (s t : State) (h : headerComplete s = .next t) :
    ∃ bytes, s.rxBuf.readBytes 4 2 = some bytes ∧
      ((remainingBytes (be16 bytes 0) = 0 ∧ frameComplete s = .next t) ∨
       (remainingBytes (be16 bytes 0) ≠ 0 ∧
        t = { s with rxState := .body, rxNeed := BitVec.ofNat 16 (remainingBytes (be16 bytes 0)) })) := by
  unfold headerComplete at h
  split at h
  · cases h
  · next bytes hb =>
    refine ⟨bytes, hb, ?_⟩
    split at h
    · exact .inl ⟨‹_›, h⟩
    · cases h; exact .inr ⟨‹_›, rfl⟩

/-- The state with one more byte in RXBUF. -/
abbrev storedByte (b : Byte) (s : State) : State :=
  { s with rxBuf := s.rxBuf.writeBytes s.rxLen.toNat [b], rxLen := s.rxLen + 1, rxNeed := s.rxNeed - 1 }

/-- The deframer step on a byte: the phase goes on, the header ends, or the body ends. -/
theorem deframeByte_next (b : Byte) (s t : State) (h : deframeByte b s = .next t) :
    s.rxLen.toNat + 1 ≤ Config.rxCap ∧
    ((s.rxNeed - 1 ≠ 0 ∧ t = storedByte b s) ∨
     (s.rxNeed - 1 = 0 ∧ s.rxState = .hdr ∧ headerComplete (storedByte b s) = .next t) ∨
     (s.rxNeed - 1 = 0 ∧ s.rxState ≠ .hdr ∧ frameComplete (storedByte b s) = .next t)) := by
  unfold deframeByte at h
  split at h
  · cases h
  · next m hm =>
    obtain ⟨hl, rfl⟩ := (writeBuffer_eq_some ..).1 hm
    refine ⟨by simpa using hl, ?_⟩
    simp only at h
    split at h
    · split at h
      · exact .inr (.inl ⟨‹_›, ‹_›, h⟩)
      · exact .inr (.inr ⟨‹_›, ‹_›, h⟩)
    · cases h; exact .inl ⟨‹_›, rfl⟩

/-- A deframer step, by the answer. -/
theorem deframe_next (a : Answer) (s t : State) (h : deframe a s = .next t) :
    (∃ b, a = .byte b ∧ deframeByte b s = .next t) ∨
    (a = .closed ∧ t = raiseFailure .streamClosed (closedSub s.rxState) (stopReceive s)) ∨
    (a = .fault ∧ t = raiseFailure .ioError 0 (stopReceive s)) := by
  cases a with
  | byte b => exact .inl ⟨b, rfl, h⟩
  | closed => cases h; exact .inr (.inl ⟨rfl, rfl⟩)
  | fault => cases h; exact .inr (.inr ⟨rfl, rfl⟩)

/-- The collaborator's turn: nothing is read, or the oldest answer is. -/
theorem collaboratorTurn_next (s t : State) (h : collaboratorTurn s = .next t) :
    ((s.rxState = .idle ∨ s.rxQueue = []) ∧ t = s) ∨
    (s.rxState ≠ .idle ∧ ∃ a rest, s.rxQueue = a :: rest ∧ deframe a { s with rxQueue := rest } = .next t) := by
  unfold collaboratorTurn at h
  split at h
  · cases h; exact .inl ⟨.inl ‹_›, rfl⟩
  · split at h
    · cases h; exact .inl ⟨.inr ‹_›, rfl⟩
    · next a rest hq => exact .inr ⟨‹_›, a, rest, hq, h⟩

/-- An answer that joins the others: an answer that is queued behind them, with the mark of a close, or a byte after one. -/
theorem queueAnswer_cases (a : Answer) (s : State) :
    (s.peerClosed = true ∧ (∃ b, a = .byte b) ∧ queueAnswer a s = s) ∨
    (s.peerClosed = false ∧ (∃ b, a = .byte b) ∧ queueAnswer a s = { s with rxQueue := s.rxQueue ++ [a] }) ∨
    (a = .closed ∧ queueAnswer a s = { s with rxQueue := s.rxQueue ++ [.closed], peerClosed := true }) ∨
    (a = .fault ∧ queueAnswer a s = { s with rxQueue := s.rxQueue ++ [.fault] }) := by
  cases a <;> simp only [queueAnswer]
  · split <;> simp_all
  · simp
  · simp

/-- What every arriving answer keeps, a sequence of answers keeps. -/
theorem answersArrive_keeps (P : State → Prop) (step : ∀ a s t, P s → answerArrives a s = .next t → P t)
    (answers : List Answer) (s t : State) (hs : P s) (h : answersArrive answers s = .next t) : P t := by
  induction answers generalizing s with
  | nil => cases h; exact hs
  | cons a as ih =>
    obtain ⟨u, hu, hut⟩ := andThen_next _ _ _ h
    exact ih u (step a s u hs hu) hut

/-- What every arriving byte keeps, a sequence of bytes keeps. -/
theorem bytesArrive_keeps (P : State → Prop)
    (step : ∀ b s t, P s → answerArrives (.byte b) s = .next t → P t) (bytes : List Byte) (s t : State) (hs : P s)
    (h : bytesArrive bytes s = .next t) : P t := by
  induction bytes generalizing s with
  | nil => cases h; exact hs
  | cons b bs ih =>
    obtain ⟨u, hu, hut⟩ := andThen_next _ _ _ h
    exact ih u (step b s u hs hu) hut

/-- Answers that arrive after others arrive where those have led. -/
theorem answersArrive_append (xs ys : List Answer) (s t : State) (h : answersArrive xs s = .next t) :
    answersArrive (xs ++ ys) s = answersArrive ys t := by
  induction xs generalizing s with
  | nil => cases h; rfl
  | cons a as ih =>
    obtain ⟨u, hu, hut⟩ := andThen_next _ _ _ h
    rw [List.cons_append, answersArrive, hu, andThen_of_next, ih u hut]

/-- VALUES: the precondition's failure, or the values of every whole chunk. -/
theorem deliverValues_next (ty : NumType) (s t : State) (h : deliverValues ty s = .next t) :
    (s.rspValid = false ∧ t = raiseFailure .precondition 2 s) ∨
    (s.rspValid = true ∧ ∃ data, s.rspData.readBytes 0 (chunkCount ty s.rspBc * typeWidth ty) = some data ∧
      t = complete .ok 0 (BitVec.ofNat 32 (chunkCount ty s.rspBc))
        { s with values := s.values ++ valWords ty data (chunkCount ty s.rspBc) }) := by
  unfold deliverValues at h
  split at h
  · cases h; exact .inl ⟨‹_›, rfl⟩
  · next hv =>
    simp only at h
    split at h
    · cases h
    · next data hd => cases h; exact .inr ⟨by simpa using hv, data, hd, rfl⟩

/-- VALUE: a failure, or the value of the chunk. -/
theorem deliverValue_next (ty : NumType) (index : Half) (s t : State) (h : deliverValue ty index s = .next t) :
    (s.rspValid = false ∧ t = raiseFailure .precondition 2 s) ∨
    (s.rspValid = true ∧ chunkCount ty s.rspBc ≤ index.toNat ∧ t = raiseFailure .decodeRange 0 s) ∨
    (s.rspValid = true ∧ index.toNat < chunkCount ty s.rspBc ∧ ∃ chunk,
      s.rspData.readBytes (index.toNat * typeWidth ty) (typeWidth ty) = some chunk ∧
      t = complete .ok 0 1 { s with values := s.values ++ [valWord ty (beNat chunk)] }) := by
  unfold deliverValue at h
  split at h
  · cases h; exact .inl ⟨‹_›, rfl⟩
  · next hv =>
    split at h
    · next hi => cases h; exact .inr (.inl ⟨by simpa using hv, hi, rfl⟩)
    · next hi =>
      split at h
      · cases h
      · next chunk hc => cases h; exact .inr (.inr ⟨by simpa using hv, by omega, chunk, hc, rfl⟩)

end Sys2Proof.Machine
end

