-- ==== Sys2Proof/Laws/PerInstr.lean ====
section
/-! SUPPORT. The family `TableRow`: every instruction's encoding has the bits that its row of spec/opcode_table.json fixes. The fixed
fields are read from the table's match and mask (or pattern of bits), not from the encoder. -/

namespace Sys2Proof.Laws.TableRow

/-- A field of a port word. -/
def field (p : PortWord) (lo len : Nat) : Nat :=
  match p with
  | .command c => (c.cw.extractLsb' lo len).toNat
  | .request w => (w.extractLsb' lo len).toNat
  | .response w => (w.extractLsb' lo len).toNat
  | .answer w => (w.extractLsb' lo len).toNat

/-- The width of a port word: the row's width. -/
def width : PortWord → Nat
  | .command _ => 96
  | .request _ => 96
  | .response _ => 72
  | .answer _ => 10

/-- A row of the table: its width, and the fields it fixes as (lowest bit, length, value). -/
def row : Instr → Nat × List (Nat × Nat × Nat)
  | .reset => (96, [(88, 8, 1), (0, 88, 0)])
  | .build _ _ => (96, [(88, 8, 8), (82, 6, 0), (0, 8, 0)])
  | .connect => (96, [(88, 8, 0x10), (0, 88, 0)])
  | .disconnect => (96, [(88, 8, 0x11), (0, 88, 0)])
  | .send => (96, [(88, 8, 0x12), (0, 88, 0)])
  | .recv => (96, [(88, 8, 0x13), (0, 88, 0)])
  | .loadf _ _ => (96, [(88, 8, 0x20), (24, 64, 0)])
  | .decode => (96, [(88, 8, 0x21), (0, 88, 0)])
  | .valuesInt16 => (96, [(88, 8, 0x28), (83, 5, 0), (80, 3, 0), (64, 16, 0), (0, 64, 0)])
  | .valuesUint16 => (96, [(88, 8, 0x28), (83, 5, 0), (80, 3, 1), (64, 16, 0), (0, 64, 0)])
  | .valuesInt32 => (96, [(88, 8, 0x28), (83, 5, 0), (80, 3, 2), (64, 16, 0), (0, 64, 0)])
  | .valuesUint32 => (96, [(88, 8, 0x28), (83, 5, 0), (80, 3, 3), (64, 16, 0), (0, 64, 0)])
  | .valuesFloat32 => (96, [(88, 8, 0x28), (83, 5, 0), (80, 3, 4), (64, 16, 0), (0, 64, 0)])
  | .valuesInt64 => (96, [(88, 8, 0x28), (83, 5, 0), (80, 3, 5), (64, 16, 0), (0, 64, 0)])
  | .valuesUint64 => (96, [(88, 8, 0x28), (83, 5, 0), (80, 3, 6), (64, 16, 0), (0, 64, 0)])
  | .valuesFloat64 => (96, [(88, 8, 0x28), (83, 5, 0), (80, 3, 7), (64, 16, 0), (0, 64, 0)])
  | .valueInt16 _ => (96, [(88, 8, 0x29), (83, 5, 0), (80, 3, 0), (0, 64, 0)])
  | .valueUint16 _ => (96, [(88, 8, 0x29), (83, 5, 0), (80, 3, 1), (0, 64, 0)])
  | .valueInt32 _ => (96, [(88, 8, 0x29), (83, 5, 0), (80, 3, 2), (0, 64, 0)])
  | .valueUint32 _ => (96, [(88, 8, 0x29), (83, 5, 0), (80, 3, 3), (0, 64, 0)])
  | .valueFloat32 _ => (96, [(88, 8, 0x29), (83, 5, 0), (80, 3, 4), (0, 64, 0)])
  | .valueInt64 _ => (96, [(88, 8, 0x29), (83, 5, 0), (80, 3, 5), (0, 64, 0)])
  | .valueUint64 _ => (96, [(88, 8, 0x29), (83, 5, 0), (80, 3, 6), (0, 64, 0)])
  | .valueFloat64 _ => (96, [(88, 8, 0x29), (83, 5, 0), (80, 3, 7), (0, 64, 0)])
  | .readc _ => (96, [(88, 8, 0x30), (82, 6, 0), (72, 8, 0), (0, 8, 0)])
  | .readh _ => (96, [(88, 8, 0x31), (82, 6, 0), (72, 8, 0), (0, 8, 0)])
  | .frameReqReadCoils _ _ _ _ => (96, [(64, 16, 0), (48, 16, 6), (32, 8, 1)])
  | .frameReqReadHoldingRegisters _ _ _ _ => (96, [(64, 16, 0), (48, 16, 6), (32, 8, 3)])
  | .frameRsp _ _ _ _ _ _ => (72, [])
  | .answerNone => (10, [(8, 2, 0), (0, 8, 0)])
  | .answerByte _ => (10, [(8, 2, 1)])
  | .answerClosed => (10, [(8, 2, 2), (0, 8, 0)])
  | .answerFault => (10, [(8, 2, 3), (0, 8, 0)])

/-- The encoding of `i` has the width of its row and every bit the row fixes. -/
def Statement (i : Instr) : Prop :=
  width (encode i) = (row i).1 ∧ ∀ f ∈ (row i).2, field (encode i) f.1 f.2.1 = f.2.2

theorem reset : Statement .reset := by
  simp [-BitVec.extractLsb'_toNat, Statement, row, field, width, encode]

theorem build (fc : Byte) (o : BuildOperands) : Statement (.build fc o) := by
  simp [-BitVec.extractLsb'_toNat, Statement, row, field, width, encode]

theorem connect : Statement .connect := by
  simp [-BitVec.extractLsb'_toNat, Statement, row, field, width, encode]

theorem disconnect : Statement .disconnect := by
  simp [-BitVec.extractLsb'_toNat, Statement, row, field, width, encode]

theorem send : Statement .send := by
  simp [-BitVec.extractLsb'_toNat, Statement, row, field, width, encode]

theorem recv : Statement .recv := by
  simp [-BitVec.extractLsb'_toNat, Statement, row, field, width, encode]

theorem loadf (n : BitVec 24) (p : List Byte) : Statement (.loadf n p) := by
  simp [-BitVec.extractLsb'_toNat, Statement, row, field, width, encode]

theorem decode : Statement .decode := by
  simp [-BitVec.extractLsb'_toNat, Statement, row, field, width, encode]

theorem valuesInt16 : Statement .valuesInt16 := by
  simp [-BitVec.extractLsb'_toNat, Statement, row, field, width, encode]

theorem valuesUint16 : Statement .valuesUint16 := by
  simp [-BitVec.extractLsb'_toNat, Statement, row, field, width, encode]

theorem valuesInt32 : Statement .valuesInt32 := by
  simp [-BitVec.extractLsb'_toNat, Statement, row, field, width, encode]

theorem valuesUint32 : Statement .valuesUint32 := by
  simp [-BitVec.extractLsb'_toNat, Statement, row, field, width, encode]

theorem valuesFloat32 : Statement .valuesFloat32 := by
  simp [-BitVec.extractLsb'_toNat, Statement, row, field, width, encode]

theorem valuesInt64 : Statement .valuesInt64 := by
  simp [-BitVec.extractLsb'_toNat, Statement, row, field, width, encode]

theorem valuesUint64 : Statement .valuesUint64 := by
  simp [-BitVec.extractLsb'_toNat, Statement, row, field, width, encode]

theorem valuesFloat64 : Statement .valuesFloat64 := by
  simp [-BitVec.extractLsb'_toNat, Statement, row, field, width, encode]

theorem valueInt16 (i : Half) : Statement (.valueInt16 i) := by
  simp [-BitVec.extractLsb'_toNat, Statement, row, field, width, encode]

theorem valueUint16 (i : Half) : Statement (.valueUint16 i) := by
  simp [-BitVec.extractLsb'_toNat, Statement, row, field, width, encode]

theorem valueInt32 (i : Half) : Statement (.valueInt32 i) := by
  simp [-BitVec.extractLsb'_toNat, Statement, row, field, width, encode]

theorem valueUint32 (i : Half) : Statement (.valueUint32 i) := by
  simp [-BitVec.extractLsb'_toNat, Statement, row, field, width, encode]

theorem valueFloat32 (i : Half) : Statement (.valueFloat32 i) := by
  simp [-BitVec.extractLsb'_toNat, Statement, row, field, width, encode]

theorem valueInt64 (i : Half) : Statement (.valueInt64 i) := by
  simp [-BitVec.extractLsb'_toNat, Statement, row, field, width, encode]

theorem valueUint64 (i : Half) : Statement (.valueUint64 i) := by
  simp [-BitVec.extractLsb'_toNat, Statement, row, field, width, encode]

theorem valueFloat64 (i : Half) : Statement (.valueFloat64 i) := by
  simp [-BitVec.extractLsb'_toNat, Statement, row, field, width, encode]

theorem readc (o : BuildOperands) : Statement (.readc o) := by
  simp [-BitVec.extractLsb'_toNat, Statement, row, field, width, encode]

theorem readh (o : BuildOperands) : Statement (.readh o) := by
  simp [-BitVec.extractLsb'_toNat, Statement, row, field, width, encode]

theorem frameReqReadCoils (a : Half) (b : Byte) (c d : Half) : Statement (.frameReqReadCoils a b c d) := by
  simp [-BitVec.extractLsb'_toNat, Statement, row, field, width, encode]

theorem frameReqReadHoldingRegisters (a : Half) (b : Byte) (c d : Half) : Statement (.frameReqReadHoldingRegisters a b c d) := by
  simp [-BitVec.extractLsb'_toNat, Statement, row, field, width, encode]

theorem frameRsp (a b c : Half) (d e f : Byte) : Statement (.frameRsp a b c d e f) := by
  simp [-BitVec.extractLsb'_toNat, Statement, row, field, width, encode]

theorem answerNone : Statement .answerNone := by
  simp [-BitVec.extractLsb'_toNat, Statement, row, field, width, encode]

theorem answerByte (b : Byte) : Statement (.answerByte b) := by
  simp [-BitVec.extractLsb'_toNat, Statement, row, field, width, encode]

theorem answerClosed : Statement .answerClosed := by
  simp [-BitVec.extractLsb'_toNat, Statement, row, field, width, encode]

theorem answerFault : Statement .answerFault := by
  simp [-BitVec.extractLsb'_toNat, Statement, row, field, width, encode]

end Sys2Proof.Laws.TableRow
end

