-- ==== Sys2Proof/Laws/Step.lean ====
section
/-! SUPPORT. What a step can do, once: which event it takes, which command the port takes, and what a taken command does. -/

namespace Sys2Proof.Machine

/-- While nothing is pending the port takes the first word that waits. -/
@[simp] theorem takeWaiting_none_cons (c : Command) (cs : List Command) : takeWaiting .none (c :: cs) = some (c, cs) := rfl

@[simp] theorem takeWaiting_nil (p : Pend) : takeWaiting p [] = none := rfl

/-- The port takes a word it accepts, and the words before it, which it does not accept, go on waiting. -/
theorem takeWaiting_eq_some (p : Pend) (cs rest : List Command) (c : Command) (h : takeWaiting p cs = some (c, rest)) :
    ∃ before after, cs = before ++ c :: after ∧ rest = before ++ after ∧ portAccepts p c = true ∧
      ∀ d ∈ before, portAccepts p d = false := by
  induction cs generalizing rest with
  | nil => cases h
  | cons d ds ih =>
    simp only [takeWaiting] at h
    split at h
    · next ha => cases h; exact ⟨[], ds, rfl, rfl, ha, by simp⟩
    · next ha =>
      split at h
      · cases h
      · next e es he =>
        cases h
        obtain ⟨before, after, rfl, rfl, hp, hb⟩ := ih es he
        exact ⟨d :: before, after, rfl, rfl, hp, by simpa using ⟨by simpa using ha, hb⟩⟩

/-- Where the port accepts no waiting word, it takes none. -/
theorem takeWaiting_eq_none (p : Pend) (cs : List Command) (h : ∀ d ∈ cs, portAccepts p d = false) :
    takeWaiting p cs = none := by
  induction cs with
  | nil => rfl
  | cons d ds ih =>
    simp only [takeWaiting, h d (by simp), ih fun e he => h e (by simp [he])]
    rfl

/-- A taken command is executed, or completes as illegal (R103). -/
theorem runCommand_next (c : Command) (s t : State) (h : runCommand c s = .next t) :
    (∃ i, decodeCommand c = .ok i ∧ exec i s = .next t) ∨
    (decodeCommand c = .error .unassignedOpcode ∧ t = raiseFailure .illegalCommand 0 s) ∨
    (decodeCommand c = .error .reservedBit ∧ t = raiseFailure .illegalCommand 1 s) := by
  unfold runCommand at h
  split at h
  · next i hi => exact .inl ⟨i, hi, h⟩
  · cases h; exact .inr (.inl ⟨‹_›, rfl⟩)
  · cases h; exact .inr (.inr ⟨‹_›, rfl⟩)
  · cases h
  · cases h
  · cases h

/-- The command port takes nothing, or runs the word it takes. -/
theorem hostTurn_next (s t : State) (h : hostTurn s = .next t) :
    t = s ∨ ∃ c rest, takeWaiting s.pend s.waiting = some (c, rest) ∧ runCommand c { s with waiting := rest } = .next t := by
  unfold hostTurn at h
  split at h
  · cases h; exact .inl rfl
  · next c rest hc => exact .inr ⟨c, rest, hc, h⟩

/-- A word that arrives joins the words on the command port, or is a word of another port and runs. -/
theorem wordArrives_next (w : PortWord) (s t : State) (h : wordArrives w s = .next t) :
    (∃ c, w = .command c ∧ hostTurn { s with waiting := s.waiting ++ [c] } = .next t) ∨
    (∃ i, (∀ c, w ≠ .command c) ∧ decode w = .ok i ∧ exec i s = .next t) := by
  cases w with
  | command c => exact .inl ⟨c, rfl, h⟩
  | request r => unfold wordArrives at h; simp only at h; split at h; exacts [.inr ⟨_, by simp, ‹_›, h⟩, nomatch h]
  | response r => unfold wordArrives at h; simp only at h; split at h; exacts [.inr ⟨_, by simp, ‹_›, h⟩, nomatch h]
  | answer r => unfold wordArrives at h; simp only at h; split at h; exacts [.inr ⟨_, by simp, ‹_›, h⟩, nomatch h]

/-- A step takes the first event of the inbox; without one it changes nothing. -/
theorem step_next (s t : State) (h : step s = .next t) :
    (s.inbox = [] ∧ t = s) ∨ ∃ e es, s.inbox = e :: es ∧ handleEvent e { s with inbox := es } = .next t := by
  unfold step stepOnce at h
  split at h
  · cases h; exact .inl ⟨‹_›, rfl⟩
  · next e es he => exact .inr ⟨e, es, he, h⟩

/-- What one move does (R12): a word arrives, the command port or the collaborator has a turn, a reset falls, or the host reads. -/
theorem handleEvent_next (e : Event) (s t : State) (h : handleEvent e s = .next t) :
    (∃ w, e = .arrive w ∧ wordArrives w s = .next t) ∨ (e = .host ∧ hostTurn s = .next t) ∨
    (e = .collaborator ∧ collaboratorTurn s = .next t) ∨ (e = .rst ∧ t = resetBlock s) ∨
    ∃ v, t = { s with readOut := s.readOut ++ [v] } := by
  cases e with
  | arrive w => exact .inl ⟨w, rfl, h⟩
  | host => exact .inr (.inl ⟨rfl, h⟩)
  | collaborator => exact .inr (.inr (.inl ⟨rfl, h⟩))
  | rst => cases h; exact .inr (.inr (.inr (.inl ⟨rfl, rfl⟩)))
  | readRegister n =>
    refine .inr (.inr (.inr (.inr ?_)))
    simp only [handleEvent, readRegister] at h
    split at h <;> cases h
    exact ⟨_, rfl⟩
  | readWindow w o =>
    refine .inr (.inr (.inr (.inr ?_)))
    simp only [handleEvent, readWindow] at h
    split at h <;> cases h
    exact ⟨_, rfl⟩

end Sys2Proof.Machine
end

