-- ==== Sys2Proof/Tests/Slice0.lean ====
section
/-! SUPPORT. The model's own tests: the well-formedness smoke test, one written-out word for each row of the opcode table, one or two
steps for each instruction, and a state that meets the hypotheses of each statement of Certificates/Slice0/Obligations.lean. Expected
values come from the encoding tables of 30_encoding.md and from the vectors V, S and P of 95_test_vectors.md. -/

namespace Sys2Proof.Tests

open Sys2Proof Sys2Proof.Machine

/-! ### Well-formedness -/

/-- R104: a LOADF carries exactly NBYTES payload bytes; over RX_CAP it takes none (R103). -/
theorem test_wf_loadf_short : (Instr.loadf 2 [0xAB]).wf = false := by decide
theorem test_wf_loadf_long : (Instr.loadf 2 [0xAB, 0xCD, 0xEF]).wf = false := by decide
theorem test_wf_loadf_over_capacity : (Instr.loadf 65542 [0xAB]).wf = false ∧ (Instr.loadf 65542 []).wf = true := by decide
theorem test_wf_loadf_exact : (Instr.loadf 2 [0xAB, 0xCD]).wf = true := by decide

/-! ### Decoding: the words of 95_test_vectors.md, and words written from R98 to R102, R92, R93 and R107 -/

/-- A command word without payload, decoded. -/
def dec (cw : CommandWord) : Option Instr := (decode (.command ⟨cw, []⟩)).toOption

theorem test_decode_reset : dec 0x010000000000000000000000#96 = some .reset := by decide
theorem test_decode_build : dec 0x080301111234000014002500#96 = some (.build 1 ⟨true, true, 17, 0x1234, 20, 37⟩) := by decide
theorem test_decode_build_no_start : dec 0x080203010001000005000400#96 = some (.build 3 ⟨true, false, 1, 1, 5, 4⟩) := by decide
theorem test_decode_connect : dec 0x100000000000000000000000#96 = some .connect := by decide
theorem test_decode_disconnect : dec 0x110000000000000000000000#96 = some .disconnect := by decide
theorem test_decode_send : dec 0x120000000000000000000000#96 = some .send := by decide
theorem test_decode_recv : dec 0x130000000000000000000000#96 = some .recv := by decide
theorem test_decode_loadf :
    (decode (.command ⟨0x200000000000000000000002#96, [0xAB, 0xCD]⟩)).toOption = some (.loadf 2 [0xAB, 0xCD]) := by decide
theorem test_decode_decode : dec 0x210000000000000000000000#96 = some .decode := by decide
theorem test_decode_values_int16 : dec 0x280000000000000000000000#96 = some .valuesInt16 := by decide
theorem test_decode_values_uint16 : dec 0x280100000000000000000000#96 = some .valuesUint16 := by decide
theorem test_decode_values_int32 : dec 0x280200000000000000000000#96 = some .valuesInt32 := by decide
theorem test_decode_values_uint32 : dec 0x280300000000000000000000#96 = some .valuesUint32 := by decide
theorem test_decode_values_float32 : dec 0x280400000000000000000000#96 = some .valuesFloat32 := by decide
theorem test_decode_values_int64 : dec 0x280500000000000000000000#96 = some .valuesInt64 := by decide
theorem test_decode_values_uint64 : dec 0x280600000000000000000000#96 = some .valuesUint64 := by decide
theorem test_decode_values_float64 : dec 0x280700000000000000000000#96 = some .valuesFloat64 := by decide
theorem test_decode_value_int16 : dec 0x290001020000000000000000#96 = some (.valueInt16 0x0102) := by decide
theorem test_decode_value_uint16 : dec 0x290101020000000000000000#96 = some (.valueUint16 0x0102) := by decide
theorem test_decode_value_int32 : dec 0x290200010000000000000000#96 = some (.valueInt32 1) := by decide
theorem test_decode_value_uint32 : dec 0x2903FFFF0000000000000000#96 = some (.valueUint32 65535) := by decide
theorem test_decode_value_float32 : dec 0x290400000000000000000000#96 = some (.valueFloat32 0) := by decide
theorem test_decode_value_int64 : dec 0x290580000000000000000000#96 = some (.valueInt64 0x8000) := by decide
theorem test_decode_value_uint64 : dec 0x290600010000000000000000#96 = some (.valueUint64 1) := by decide
theorem test_decode_value_float64 : dec 0x290700010000000000000000#96 = some (.valueFloat64 1) := by decide
theorem test_decode_readc : dec 0x300300111234000014002500#96 = some (.readc ⟨true, true, 17, 0x1234, 20, 37⟩) := by decide
theorem test_decode_readh : dec 0x310300010001000001000400#96 = some (.readh ⟨true, true, 1, 1, 1, 4⟩) := by decide
theorem test_decode_frame_req_read_coils :
    (decode (.request 0x123400000006110100130025#96)).toOption = some (.frameReqReadCoils 0x1234 17 0x13 0x25) := by decide
theorem test_decode_frame_req_read_holding_registers :
    (decode (.request 0x000100000006010300000004#96)).toOption = some (.frameReqReadHoldingRegisters 1 1 0 4) := by decide
theorem test_decode_frame_rsp :
    (decode (.response 0x00010000000B010308#72)).toOption = some (.frameRsp 1 0 11 1 3 8) := by decide
theorem test_decode_answer_none : (decode (.answer 0x000#10)).toOption = some .answerNone := by decide
theorem test_decode_answer_byte : (decode (.answer 0x1C8#10)).toOption = some (.answerByte 0xC8) := by decide
theorem test_decode_answer_closed : (decode (.answer 0x200#10)).toOption = some .answerClosed := by decide
theorem test_decode_answer_fault : (decode (.answer 0x300#10)).toOption = some .answerFault := by decide

/-- A command word that is refused with a sub-code of ILLEGAL_COMMAND. -/
def refusedAs (cw : CommandWord) : Option Reject :=
  match decodeCommand ⟨cw, []⟩ with
  | .ok _ => none
  | .error e => some e

/-- V20, V21, V106, V126, V133 to V135 and R101: a reserved bit is refused by name, each in its format. -/
theorem test_reserved_bits_refused :
    [0x080303010001000001000401#96, 0x080703010001000001000400#96, 0x310303010001000001000400#96,
      0x280100010000000000000000#96, 0x010000000000000000000001#96, 0x128000000000000000000000#96,
      0x280900000000000000000000#96, 0x290100000000000000000001#96, 0x200000000000000001000000#96].map refusedAs =
      List.replicate 9 (some .reservedBit) := by rfl
/-- V130 to V132: an opcode that is not assigned is refused first, whatever the reserved bits. -/
theorem test_unassigned_opcodes_refused :
    [0x000000000000000000000000#96, 0xFFFFFFFFFFFFFFFFFFFFFFFF#96, 0x020000000000000000000000#96,
      0x320000000000000000000000#96].map refusedAs = List.replicate 4 (some .unassignedOpcode) := by rfl
theorem test_short_payload_refused :
    decodeCommand ⟨0x200000000000000000000002#96, [0xAB]⟩ = .error .payloadMissing := by rfl
theorem test_request_length_field_fixed :
    decodeRequest 0x000100000007010300000004#96 = .error .notARequestFrame := by rfl
theorem test_answer_byte_beside_closed : decodeAnswer 0x2C8#10 = .error .notAnAnswer := by rfl
/-- V1's word as the twelve bytes of the command port, CW[95:88] first (R97). -/
theorem test_command_of_bytes :
    (commandOfBytes [0x08, 0x03, 0x03, 0x01, 0x00, 0x01, 0x00, 0x00, 0x01, 0x00, 0x04, 0x00]).map Command.cw =
      some 0x080303010001000001000400#96 := by decide

/-! ### States and reads -/

/-- The next state, where there is one. -/
def next? (r : Result) : Option State :=
  match r with
  | .next t => some t
  | .fault _ => none
  | .refused _ => none

/-- What a next state shows. -/
def shows {α : Type} (view : State → α) (i : Instr) (s : State) : Option α := (next? (exec i s)).map view

/-- STATUS, ERR and ERRLOG. -/
def flags (s : State) : Nat × Nat × Nat := ((statusWord s).toNat, s.err.toNat, s.errLog.toNat)

/-- The last completion record. -/
def record (s : State) : Option Completion := s.results.getLast?

/-- The linked start of 95_test_vectors.md. -/
def linked : State := { State.reset with link := true }

/-- The operands of V1. -/
def ops1 : BuildOperands := ⟨true, true, 1, 1, 1, 4⟩

/-- Linked, with the Request of V1. -/
def built : State := setRequest 3 ops1 linked

/-- Frame B. -/
def frameB : List Byte :=
  [0x00, 0x01, 0x00, 0x00, 0x00, 0x0B, 0x01, 0x03, 0x08, 0x00, 0x01, 0x00, 0x02, 0x00, 0x03, 0x00, 0x04]

/-- A frame in RXBUF, Disconnected. -/
def loaded (f : List Byte) : State :=
  { State.reset with rxBuf := Memory.writeBytes [] 0 f, rxLen := BitVec.ofNat 17 f.length, rxValid := true }

/-- A Response with some data. -/
def decoded (bytes : List Byte) : State :=
  { State.reset with
    rspBc := BitVec.ofNat 8 bytes.length
    rspLen := BitVec.ofNat 16 (3 + bytes.length)
    rspData := Memory.writeBytes [] 0 bytes
    rspValid := true }

/-- A pending receive that has collected some bytes, and needs some more. -/
def receiving (p : Pend) (r : RxState) (got : List Byte) (need : Half) : State :=
  { linked with
    pend := p
    rxState := r
    rxNeed := need
    rxBuf := Memory.writeBytes [] 0 got
    rxLen := BitVec.ofNat 17 got.length }

/-- READH as V101, after the first `n` bytes of frame B, as the deframer leaves it. -/
def reading (n : Nat) : State :=
  { receiving .read (if n < 7 then .hdr else .body) (frameB.take n) (BitVec.ofNat 16 (if n < 7 then 7 - n else 17 - n)) with
    reqUnit := 1
    reqTid := 1
    reqFc := 3
    reqQty := 4
    reqValid := true
    inFlight := true }

theorem test_reset_buffers_canonical : buffersWf State.reset := by decide

/-! ### One or two steps for each instruction -/

/-- V136 in small: RESET while everything is set. -/
theorem test_reset :
    shows (fun t => (flags t, t.transport, t.rxLen.toNat, record t)) .reset { reading 9 with seqErr := true, errLog := 0x240 } =
      some ((0, 0, 0), [.close], 0, some ⟨.ok, 0, 0⟩) := by decide

/-- V1. -/
theorem test_build : shows (fun t => (txbuf t, readStatus t 3, readStatus t 4, record t)) (.build 3 ops1) State.reset =
    some ([0x00, 0x01, 0x00, 0x00, 0x00, 0x06, 0x01, 0x03, 0x00, 0x00, 0x00, 0x04], some 0x00010301, some 0x00000004,
      some ⟨.ok, 0, 0⟩) := by decide

/-- BUILD's ERR for some operands. -/
def buildErr (enforce : Bool) (fc : Byte) (pc ps : Bool) (start : BitVec 24) (count : Half) : Option Nat :=
  shows (fun t => t.err.toNat) (.build fc ⟨pc, ps, 1, 1, start, count⟩) { State.reset with enforceMaxima := enforce }

/-- V3 to V19: every check of BUILD at its boundaries, and the order of the checks. -/
theorem test_build_checks :
    buildErr false 3 true true 65536 65535 = some 0x00 ∧ buildErr true 3 true true 65536 65535 = some 0x56 ∧
    buildErr false 3 true true 1 1 = some 0x00 ∧ buildErr false 3 true false 5 4 = some 0x06 ∧
    buildErr false 3 false true 1 4 = some 0x16 ∧ buildErr false 3 false false 0 0 = some 0x06 ∧
    buildErr false 4 true true 1 4 = some 0x46 ∧ buildErr false 0 true true 0 0 = some 0x46 ∧
    buildErr false 3 true true 0 4 = some 0x26 ∧ buildErr false 3 true true 65537 4 = some 0x26 ∧
    buildErr false 3 true true 0xFFFFFF 4 = some 0x26 ∧ buildErr false 3 true true 1 0 = some 0x36 ∧
    buildErr false 3 true true 0 0 = some 0x26 ∧ buildErr true 3 true true 1 126 = some 0x56 ∧
    buildErr true 3 true true 1 125 = some 0x00 ∧ buildErr true 1 true true 1 2001 = some 0x56 ∧
    buildErr true 1 true true 1 2000 = some 0x00 := by decide

/-- V23 and V25. -/
theorem test_connect :
    shows (fun t => (flags t, record t, t.transport)) .connect { State.reset with connAnswers := [true] } =
      some ((0x001, 0, 0), some ⟨.ok, 0, 1⟩, [.connect]) ∧
    shows (fun t => (flags t, record t)) .connect { State.reset with connAnswers := [false] } =
      some ((0x400, 0, 0x002), some ⟨.ok, 0, 0⟩) := by decide
/-- V24. -/
theorem test_connect_connected :
    shows (fun t => (flags t, record t, t.transport)) .connect linked =
      some ((0x001, 0x3B, 0x800), some ⟨.precondition, 3, 0⟩, []) := by decide

/-- V26 and V27. -/
theorem test_disconnect :
    shows (fun t => (flags t, t.transport)) .disconnect State.reset = some ((0, 0, 0), []) ∧
    shows (fun t => (flags t, t.transport)) .disconnect linked = some ((0, 0, 0), [.close]) := by decide
/-- V46. -/
theorem test_disconnect_pending :
    shows (fun t => (flags t, t.results, t.rxLen.toNat)) .disconnect (receiving .recv .body (frameB.take 10) 7) =
      some ((0, 0, 0x200), [⟨.ioError, 1, 0⟩, ⟨.ok, 0, 0⟩], 10) := by decide

/-- V31: the second SEND in flight. -/
theorem test_send :
    shows (fun t => (flags t, record t, (txStream t).length)) .send { built with inFlight := true } =
      some ((0x303, 0, 0), some ⟨.ok, 0, 12⟩, 12) := by decide
/-- V28, V29, V30: the Request check comes first. -/
theorem test_send_checks :
    shows flags .send State.reset = some (0, 0x0B, 0x800) ∧
    shows flags .send { built with link := false } = some (0x002, 0x07, 0x080) ∧
    shows flags .send linked = some (0x001, 0x0B, 0x800) := by decide

/-- V33 and V32. -/
theorem test_recv :
    shows (fun t => (flags t, t.rxNeed.toNat, t.rxLen.toNat, record t)) .recv linked = some ((0x051, 0, 0), 7, 0, none) ∧
    shows flags .recv State.reset = some (0, 0x07, 0x080) := by decide

/-- V42's DECODE, and what LOADF leaves of an earlier frame. -/
theorem test_loadf :
    shows (fun t => (flags t, readStatus t 5, record t)) (.loadf 2 [0xAB, 0xCD]) (loaded frameB) =
      some ((0x004, 0, 0), some 2, some ⟨.ok, 0, 2⟩) ∧
    shows (fun t => (readWindowByte t 1 1, readWindowByte t 1 2)) (.loadf 2 [0xAB, 0xCD]) (loaded frameB) = some (some 0xCD, none) := by decide
/-- R170: one byte over RX_CAP. -/
theorem test_loadf_over_capacity :
    shows flags (.loadf 65542 []) State.reset = some (0, 0x2A, 0x400) := by decide

/-- V50 and V63. -/
theorem test_decode :
    shows (fun t => (flags t, [7, 8, 9].map (readStatus t), t.rspData.readBytes 0 8)) .decode (loaded frameB) =
      some ((0x00C, 0, 0), [some 0x00010000, some 0x000B0103, some 0x00000008], some (frameB.drop 9)) ∧
    shows (fun t => (flags t, t.rspData.readBytes 0 6, record t)) .decode (loaded (frameB.set 8 6)) =
      some ((0x80C, 0, 0), some [0x00, 0x01, 0x00, 0x02, 0x00, 0x03], some ⟨.ok, 0, 6⟩) := by decide
/-- V51, V55, V59 to V62 and V42: the failures and their order. -/
theorem test_decode_checks :
    shows flags .decode (loaded (frameB.take 5)) = some (0x004, 0x03, 0x008) ∧
    shows flags .decode (loaded [0x00, 0x01, 0x00, 0x00, 0x00, 0x03, 0x01, 0x83, 0x02]) = some (0x004, 0x14, 0x010) ∧
    shows flags .decode (loaded (frameB.set 5 0x0C)) = some (0x004, 0x04, 0x010) ∧
    shows flags .decode (loaded (frameB.set 5 0x0A)) = some (0x004, 0x04, 0x010) ∧
    shows flags .decode (loaded (frameB.set 8 9)) = some (0x004, 0x14, 0x010) ∧
    shows flags .decode (loaded ((frameB.set 5 0x0C).set 8 9)) = some (0x004, 0x04, 0x010) ∧
    shows flags .decode State.reset = some (0, 0x1B, 0x800) := by decide

/-- The VAL words and the result of VALUES or VALUE on some data. -/
def vals (i : Instr) (bytes : List Byte) : Option (List Nat × Option Nat) :=
  shows (fun t => (t.values.map BitVec.toNat, (record t).map fun r => r.res.toNat)) i (decoded bytes)

/-- V85, V91 and V122. -/
theorem test_values_int16 : vals .valuesInt16 [0x80, 0x00, 0x07] = some ([0xFFFFFFFFFFFF8000], some 1) ∧
    vals .valuesInt16 [1, 2, 3, 4, 5] = some ([258, 772], some 2) := by decide
/-- V71 and V125. -/
theorem test_values_uint16 : vals .valuesUint16 (frameB.drop 9) = some ([1, 2, 3, 4], some 4) ∧
    shows flags .valuesUint16 State.reset = some (0, 0x2B, 0x800) := by decide
/-- V87, V92. -/
theorem test_values_int32 : vals .valuesInt32 [0xFF, 0xFF, 0xFF, 0xFE, 0, 1, 0, 0] =
    some ([0xFFFFFFFFFFFFFFFE, 0x10000], some 2) := by decide
theorem test_values_uint32 : vals .valuesUint32 [0xFF, 0xFF, 0xFF, 0xFE, 0, 1, 0, 0] =
    some ([0xFFFFFFFE, 0x10000], some 2) := by decide
/-- V88, V96, V122. -/
theorem test_values_float32 : vals .valuesFloat32 [0x80, 0, 0, 0, 0x7F, 0xA0, 0, 1] =
    some ([0x80000000, 0x7FA00001], some 2) ∧ vals .valuesFloat32 [1, 2, 3, 4, 5] = some ([0x01020304], some 1) := by decide
/-- V99, V122. -/
theorem test_values_int64 : vals .valuesInt64 [0xFF, 0xFF, 0xFF, 0xFF, 0xFF, 0xFF, 0xFF, 0xF6] =
    some ([0xFFFFFFFFFFFFFFF6], some 1) ∧ vals .valuesInt64 [1, 2, 3, 4, 5] = some ([], some 0) := by decide
/-- V112. -/
theorem test_values_uint64 : vals .valuesUint64 [0, 0, 0, 1, 0, 0, 0, 0] = some ([0x100000000], some 1) := by decide
/-- V114. -/
theorem test_values_float64 : vals .valuesFloat64 [0x40, 0x09, 0x21, 0xFB, 0x54, 0x44, 0x2D, 0x18] =
    some ([0x400921FB54442D18], some 1) := by decide

/-- V122: an index past the last whole chunk, although byte 4 exists. -/
theorem test_value_int16 : vals (.valueInt16 1) [1, 2, 0xFF, 0xFE, 5] = some ([0xFFFFFFFFFFFFFFFE], some 1) ∧
    shows flags (.valueInt16 2) (decoded [1, 2, 3, 4, 5]) = some (0x008, 0x05, 0x020) := by decide
/-- V123, V125. -/
theorem test_value_uint16 : shows flags (.valueUint16 0) (decoded []) = some (0x008, 0x05, 0x020) ∧
    shows flags (.valueUint16 0) State.reset = some (0, 0x2B, 0x800) := by decide
/-- P1, step 7. -/
theorem test_value_int32 : vals (.valueInt32 1) (frameB.drop 9) = some ([196612], some 1) := by decide
/-- V88. -/
theorem test_value_uint32 : vals (.valueUint32 0) [0x80, 0, 0, 0] = some ([0x80000000], some 1) := by decide
/-- V94. -/
theorem test_value_float32 : vals (.valueFloat32 0) [0xC0, 0x49, 0x0F, 0xDB] = some ([0xC0490FDB], some 1) := by decide
/-- V100. -/
theorem test_value_int64 : vals (.valueInt64 0) [0x80, 0, 0, 0, 0, 0, 0, 0] = some ([0x8000000000000000], some 1) := by decide
/-- V112. -/
theorem test_value_uint64 : vals (.valueUint64 0) [0, 0, 0, 1, 0, 0, 0, 0] = some ([0x100000000], some 1) := by decide
/-- V115. -/
theorem test_value_float64 : vals (.valueFloat64 0) [0xC0, 0x37, 0, 0, 0, 0, 0, 0] = some ([0xC037000000000000], some 1) := by decide

/-- V102. -/
theorem test_readc : shows (fun t => (flags t, txStream t, record t)) (.readc ⟨true, true, 17, 0x1234, 20, 37⟩) linked =
    some ((0x193, 0, 0), [0x12, 0x34, 0, 0, 0, 6, 0x11, 1, 0, 0x13, 0, 0x25], none) := by decide
/-- V101. -/
theorem test_readh : shows (fun t => (flags t, txStream t, t.rxNeed.toNat)) (.readh ops1) linked =
    some ((0x193, 0, 0), [0, 1, 0, 0, 0, 6, 1, 3, 0, 0, 0, 4], 7) := by decide
/-- V103, V104, V105: each stage that fails ends the command. -/
theorem test_readh_failures :
    shows flags (.readh ops1) State.reset = some (0x002, 0x07, 0x080) ∧
    shows flags (.readh ⟨true, true, 1, 1, 0, 4⟩) State.reset = some (0, 0x26, 0x040) ∧
    shows (fun t => (flags t, txStream t)) (.readh ⟨false, true, 1, 1, 1, 0⟩) linked = some ((0x001, 0x16, 0x040), []) := by decide

/-- R92's bytes, on a Connected session only. -/
theorem test_frame_req_read_coils :
    shows txStream (.frameReqReadCoils 0x1234 17 0x13 0x25) linked = some [0x12, 0x34, 0, 0, 0, 6, 0x11, 1, 0, 0x13, 0, 0x25] ∧
    shows txStream (.frameReqReadCoils 0x1234 17 0x13 0x25) State.reset = some [] := by decide
theorem test_frame_req_read_holding_registers :
    shows txStream (.frameReqReadHoldingRegisters 1 1 0 4) linked = some [0, 1, 0, 0, 0, 6, 1, 3, 0, 0, 0, 4] := by decide
/-- V35: nine bytes of frame B. -/
theorem test_frame_rsp :
    shows (fun t => (flags t, t.rxLen.toNat, t.rxNeed.toNat, t.rxBuf.readBytes 0 9)) (.frameRsp 1 0 11 1 3 8)
      (receiving .recv .hdr [] 7) = some ((0x061, 0, 0), 9, 8, some (frameB.take 9)) := by decide
theorem test_answer_none : shows flags .answerNone (receiving .recv .hdr [] 7) = some (0x051, 0, 0) := by decide
/-- V35: the seventh and the seventeenth byte. -/
theorem test_answer_byte :
    shows (fun t => (flags t, t.rxLen.toNat, t.rxNeed.toNat)) (.answerByte 0x01) (receiving .recv .hdr (frameB.take 6) 1) =
      some ((0x061, 0, 0), 7, 10) ∧
    shows (fun t => (flags t, t.rxNeed.toNat, record t)) (.answerByte 0x04) (receiving .recv .body (frameB.take 16) 1) =
      some ((0x005, 0, 0), 0, some ⟨.ok, 0, 17⟩) := by decide
/-- V36 and V37, and V101's last byte. -/
theorem test_answer_byte_ends :
    shows (fun t => (flags t, record t)) (.answerByte 0x01) (receiving .recv .hdr [0, 9, 0, 0, 0, 0] 1) =
      some ((0x005, 0, 0), some ⟨.ok, 0, 7⟩) ∧
    shows (fun t => (flags t, record t)) (.answerByte 0x01) (receiving .recv .hdr [0, 9, 0, 0, 0, 1] 1) =
      some ((0x005, 0, 0), some ⟨.ok, 0, 7⟩) ∧
    shows (fun t => (flags t, record t)) (.answerByte 0x04) (reading 16) = some ((0x00F, 0, 0), some ⟨.ok, 0, 8⟩) := by decide
/-- V42 and V43. -/
theorem test_answer_closed :
    shows (fun t => (flags t, t.rxLen.toNat)) .answerClosed (receiving .recv .hdr (frameB.take 4) 3) = some ((0x001, 0x02, 0x004), 4) ∧
    shows (fun t => (flags t, t.rxLen.toNat)) .answerClosed (receiving .recv .body (frameB.take 7) 10) =
      some ((0x001, 0x12, 0x004), 7) := by decide
/-- R75 and V48: a `Closed` waits for the next receive, and no byte comes after it. -/
theorem test_closed_is_last :
    (next? (answersArrive [.byte 1, .closed, .byte 2] linked)).map State.rxQueue = some [.byte 1, .closed] ∧
    (next? (answersArrive [.closed, .byte 2] (receiving .recv .hdr [] 7))).map (fun t => (flags t, t.rxLen.toNat, t.rxQueue)) =
      some ((0x001, 0x02, 0x004), 0, []) := by decide
/-- V45 and V129. -/
theorem test_answer_fault :
    shows (fun t => (flags t, t.rxLen.toNat)) .answerFault (receiving .recv .body (frameB.take 10) 7) =
      some ((0x001, 0x09, 0x200), 10) ∧ shows flags .answerFault (reading 0) = some (0x103, 0x09, 0x200) := by decide

/-! ### The port, the read port, the listing and the denotations -/

/-- A step of a state with one event. -/
def after (e : Event) (s : State) : Option State := next? (step { s with inbox := [e] })

/-- V33: held words, a DISCONNECT with a reserved bit among them. -/
theorem test_held_words :
    (after (.arrive (.command ⟨0x110000000000000000000001#96, []⟩)) (receiving .recv .hdr [] 7)).map
      (fun t => (flags t, t.waiting.length, t.results)) = some ((0x051, 0, 0), 1, []) := by decide
/-- R160: a DISCONNECT overtakes what is held, which is then taken on the next turn. -/
theorem test_disconnect_overtakes :
    (after (.arrive (.command ⟨0x110000000000000000000000#96, []⟩))
      { receiving .recv .hdr [] 7 with waiting := [⟨0x120000000000000000000000#96, []⟩] }).map
      (fun t => (flags t, t.waiting.length, t.results.length)) = some ((0, 0, 0x200), 1, 2) := by decide
/-- V130, V131, V20. -/
theorem test_illegal_words :
    (after (.arrive (.command ⟨0#96, []⟩)) State.reset).map flags = some (0, 0x0A, 0x400) ∧
    (after (.arrive (.command ⟨0xFFFFFFFFFFFFFFFFFFFFFFFF#96, []⟩)) State.reset).map flags = some (0, 0x0A, 0x400) ∧
    (after (.arrive (.command ⟨0x080303010001000001000401#96, []⟩)) State.reset).map flags = some (0, 0x1A, 0x400) := by decide
theorem test_malformed_answer_refused :
    step { State.reset with inbox := [.arrive (.answer 0x2C8#10)] } = .refused .notAPortWord := by rfl
theorem test_short_loadf_refused :
    step { State.reset with inbox := [.arrive (.command ⟨0x200000000000000000000002#96, [0xAB]⟩)] } = .refused .payloadMissing := by
  rfl
theorem test_hard_reset : (after .rst (reading 9)).map (fun t => (flags t, t.transport, t.results)) =
    some ((0, 0, 0), [.close], []) := by decide
theorem test_read_port :
    (after (.readRegister 6) (reading 9)).map State.readOut = some [.register 8] ∧
    (after (.readWindow 1 8) (reading 9)).map State.readOut = some [.window 0x08] := by decide
theorem test_placed_word_runs :
    decodeTableWord 96 0x100000000000000000000000 = some .connect ∧
    (next? (step ({ State.reset with connAnswers := [true] }.withFetchWord 96 0x100000000000000000000000))).map flags =
      some (0x001, 0, 0) := by decide
/-- R108's forms, with the operands of V1, V5 and V42. -/
theorem test_listing :
    listing (.build 3 ops1) = some "BUILD fc=3, unit=1, tid=1, start=1, count=4" ∧
    listing (.readh ⟨true, false, 1, 1, 0, 4⟩) = some "READH unit=1, tid=1, count=4" ∧
    listing (.valueInt32 1) = some "VALUE INT32, index=1" ∧ listing (.answerByte 0xC8) = some "rx C8" := by decide
/-- V95, V97, V98 and V117: 25.0 = 13107200 * 2^-19, the infinities, the smallest subnormals. -/
theorem test_denote_floats :
    binary32 0x41C80000 = .normal false 13107200 (-19) ∧ binary32 0xFF800000 = .infinity true ∧
    binary32 0x00000001 = .subnormal false 1 (-149) ∧ binary64 0x0000000000000001 = .subnormal false 1 (-1074) ∧
    binary32 0x7FA00001 = .nan false false 0x200001 := by decide

/-! ### States and operands that meet the hypotheses of the statements, clause by clause -/

/-- READH as V101, with all of frame B but its last byte. -/
abbrev lastOfRead : State := reading 16

theorem witness_StatusRegistersShowTheirFields : built.reqValid = true ∧ (decoded [1, 2]).rspValid = true := by decide

/-- Each clause of the refusals at its first and last value, and each register and window that is read. -/
theorem witness_ReadPortRefusesUnspecifiedAndHasNoSideEffect :
    ({ built with inbox := [.readRegister 4] } : State).inbox = .readRegister 4 :: [] ∧
    ((10 ≤ 10) ∧ (3 ∈ [3, 4] ∧ linked.reqValid = false) ∧ (9 ∈ [7, 8, 9] ∧ linked.rspValid = false)) ∧
    ¬(10 ≤ 9 ∨ (9 ∈ [3, 4] ∧ (decoded [1, 2]).reqValid = false) ∨ (9 ∈ [7, 8, 9] ∧ (decoded [1, 2]).rspValid = false)) ∧
    ({ built with inbox := [.readWindow 0 11] } : State).inbox = .readWindow 0 11 :: [] ∧
    (3 ≤ 3 ∧ linked.reqValid = false ∧ 12 ≤ 12 ∧ (loaded frameB).rxLen.toNat ≤ 17 ∧ (decoded [1, 2]).rspBc.toNat ≤ 2) ∧
    readWindowByte built 0 11 = some 4 ∧ readWindowByte (loaded frameB) 1 16 = some 4 ∧
    readWindowByte (decoded [1, 2]) 2 1 = some 2 := by decide

theorem witness_WindowsShowTheBuffers :
    (built.reqValid = true ∧ 11 < 12) ∧ 16 < (loaded frameB).rxLen.toNat ∧
    ((decoded [1, 2]).rspValid = true ∧ 1 < (decoded [1, 2]).rspBc.toNat) := by decide

theorem witness_HardResetIsResetWithoutARecord : ({ linked with inbox := [.rst] } : State).inbox = .rst :: [] := by decide

/-- The outcome that the hypothesis names, for each of its clauses: test_build_checks has the same at every boundary. -/
theorem witness_BuildReportsTheFirstFailureOrWritesTheRequest :
    State.reset.pend = .none ∧
    buildFailure false 3 ops1 = none ∧ buildFailure false 3 ⟨true, true, 0, 0, 65536, 65535⟩ = none ∧
    buildFailure true 1 ⟨true, true, 0, 0, 1, 2000⟩ = none ∧
    buildFailure false 3 ⟨true, false, 0, 0, 1, 1⟩ = some 0 ∧ buildFailure false 3 ⟨false, true, 0, 0, 1, 1⟩ = some 1 ∧
    buildFailure false 4 ⟨true, true, 0, 0, 1, 1⟩ = some 4 ∧ buildFailure false 3 ⟨true, true, 0, 0, 0, 1⟩ = some 2 ∧
    buildFailure false 3 ⟨true, true, 0, 0, 65537, 1⟩ = some 2 ∧ buildFailure false 3 ⟨true, true, 0, 0, 1, 0⟩ = some 3 ∧
    buildFailure true 3 ⟨true, true, 0, 0, 1, 126⟩ = some 5 := by decide

theorem witness_BuiltFrameIsTheTwelveByteRequest :
    State.reset.pend = .none ∧
    exec (.build 3 ops1) State.reset = .next (complete .ok 0 0 (setRequest 3 ops1 State.reset)) ∧
    (complete .ok 0 0 (setRequest 3 ops1 State.reset)).reqValid = true := ⟨rfl, rfl, rfl⟩

/-- Both answers, and a Connected session. -/
theorem witness_ConnectRecordsTheCollaboratorsAnswer :
    State.reset.pend = .none ∧ linked.pend = .none ∧ ({ State.reset with connAnswers := [true] } : State).pend = .none ∧
    ({ State.reset with connAnswers := [false] } : State).connAnswers = false :: [] := by decide

/-- The three hypotheses about the states between are equations that name them; the first two cases are a pending receive and none. -/
theorem witness_DisconnectClosesAndForcesAPendingReceive :
    linked.pend = .none ∧ (receiving .recv .hdr [] 7).pend ≠ .none ∧ linked.link = true ∧ State.reset.link = false := by decide

theorem witness_SecondDisconnectOnlyAddsItsRecord :
    exec .disconnect State.reset = .next (complete .ok 0 0 State.reset) := rfl

theorem witness_SendPushesTxbufOrReportsWhatIsMissing :
    (built.pend = .none ∧ built.reqValid = true ∧ built.link = true) ∧ linked.reqValid = false ∧
    (setRequest 3 ops1 State.reset).link = false := by decide

theorem witness_RecvArmsTheDeframer :
    (State.reset.pend = .none ∧ State.reset.link = false) ∧ (linked.pend = .none ∧ linked.link = true) := by decide

/-- Both hypotheses of both clauses. -/
theorem witness_LinkChangesOnlyByConnectDisconnectAndReset :
    (next? (exec .connect { State.reset with connAnswers := [true] })).map State.link = some true ∧
    (next? (exec .disconnect linked)).map State.link = some false ∧
    (next? (exec .reset linked)).map State.link = some false := by decide

/-- The header's first byte, and the last byte but one of a body. -/
theorem witness_AnswerByteStoresOneByte :
    let s := receiving .recv .hdr [] 7
    let t := reading 15
    (s.rxState ≠ .idle ∧ s.rxQueue = [] ∧ s.peerClosed = false ∧ 2 ≤ s.rxNeed.toNat ∧ s.rxLen.toNat < 65541) ∧
    (t.rxState ≠ .idle ∧ t.rxQueue = [] ∧ t.peerClosed = false ∧ t.rxNeed.toNat = 2 ∧ t.rxLen.toNat < 65541) := by decide

/-- The least and the greatest length field with a body. -/
theorem witness_HeaderCompleteArmsTheBody :
    let s := receiving .recv .hdr [0, 9, 0, 0, 0, 2] 1
    let t := receiving .read .hdr [0, 9, 0, 0, 0xFF, 0xFF] 1
    (s.rxState = .hdr ∧ s.rxQueue = [] ∧ s.peerClosed = false ∧ s.rxNeed = 1 ∧ s.rxLen = 6 ∧ s.rxBuf.read? 4 = some 0 ∧
      s.rxBuf.read? 5 = some 2 ∧ 2 ≤ (0 : Byte).toNat * 256 + (2 : Byte).toNat) ∧
    (t.rxState = .hdr ∧ t.rxQueue = [] ∧ t.peerClosed = false ∧ t.rxNeed = 1 ∧ t.rxLen = 6 ∧ t.rxBuf.read? 4 = some 0xFF ∧
      t.rxBuf.read? 5 = some 0xFF ∧ 2 ≤ (0xFF : Byte).toNat * 256 + (0xFF : Byte).toNat) := by decide

/-- The body, and the header with the length fields 0 and 1. -/
theorem witness_FrameCompleteEndsRecv :
    let s := receiving .recv .body (frameB.take 16) 1
    (s.pend = .recv ∧ s.rxQueue = [] ∧ s.peerClosed = false ∧ s.rxNeed = 1 ∧ s.rxLen.toNat < 65541 ∧ s.rxState = .body) ∧
    [0#8, 1#8].all (fun len =>
      let t := receiving .recv .hdr [0, 9, 0, 0, 0, len] 1
      decide (t.pend = .recv ∧ t.rxQueue = [] ∧ t.peerClosed = false ∧ t.rxNeed = 1 ∧ t.rxLen.toNat < 65541 ∧
        t.rxState = .hdr ∧ t.rxLen = 6 ∧ t.rxBuf.read? 4 = some 0#8 ∧ t.rxBuf.read? 5 = some len)) = true := by decide

/-- The body, and the header with the length fields 0 and 1. -/
theorem witness_FrameCompleteOfAReadRunsDecode :
    let s := lastOfRead
    (s.pend = .read ∧ s.rxQueue = [] ∧ s.peerClosed = false ∧ s.rxNeed = 1 ∧ s.rxLen.toNat < 65541 ∧ s.rxState = .body) ∧
    [0#8, 1#8].all (fun len =>
      let t := receiving .read .hdr [0, 9, 0, 0, 0, len] 1
      decide (t.pend = .read ∧ t.rxQueue = [] ∧ t.peerClosed = false ∧ t.rxNeed = 1 ∧ t.rxLen.toNat < 65541 ∧
        t.rxState = .hdr ∧ t.rxLen = 6 ∧ t.rxBuf.read? 4 = some 0#8 ∧ t.rxBuf.read? 5 = some len)) = true := by decide

/-- In the header and in the body. -/
theorem witness_ClosedAnswerEndsTheReceive :
    ((reading 0).rxState ≠ .idle ∧ (reading 0).rxQueue = []) ∧ ((reading 7).rxState ≠ .idle ∧ (reading 7).rxQueue = []) ∧
    (reading 0).rxState = .hdr ∧ (reading 7).rxState = .body := by decide

theorem witness_FaultAnswerEndsTheReceive :
    ((reading 0).rxState ≠ .idle ∧ (reading 0).rxQueue = []) ∧ ((reading 7).rxState ≠ .idle ∧ (reading 7).rxQueue = []) := by decide

theorem witness_WithoutAnAnswerNothingChanges : (reading 7).inbox = [] := by decide

/-- No receive; a byte, a `Closed` and a `Fault` at the head of what waits; an arrival before the collaborator's turn; a byte after a
`Closed`, with no receive and with one; and the mark of a close, kept. -/
theorem witness_AnswersWaitUntilAReceiveTakesThem :
    (linked.rxState = .idle ∧ linked.peerClosed = false) ∧
    [(Answer.byte 3, Instr.answerByte 3), (.closed, .answerClosed), (.fault, .answerFault)].all (fun (a, i) =>
      let s : State := { reading 7 with rxQueue := [a, .closed], peerClosed := true, inbox := [.collaborator] }
      decide (s.rxState ≠ .idle ∧ s.rxQueue = a :: [.closed] ∧ s.inbox = .collaborator :: [] ∧
        (next? (exec i { s with rxQueue := [], peerClosed := false, inbox := [] })).isSome = true)) = true ∧
    (let s : State := { reading 7 with inbox := [.collaborator] }
     s.inbox = .collaborator :: [] ∧ s.peerClosed = false) ∧
    (let s : State := { linked with rxQueue := [.closed], peerClosed := true }
     let t : State := { reading 7 with peerClosed := true }
     s.peerClosed = true ∧ s.rxState = .idle ∧ t.peerClosed = true ∧ t.rxQueue = [] ∧
     (next? (exec .recv s)).map State.peerClosed = some true ∧ (next? (exec .disconnect s)).map State.peerClosed = some false) := by
  decide

/-- Frame B, and the shortest frame. -/
theorem witness_ReceiveTakesExactlyTheDeclaredFrame :
    (linked.pend = .none ∧ linked.link = true ∧ linked.rxQueue = [] ∧ linked.peerClosed = false) ∧
    (7 ≤ frameB.length ∧ frameB.length = 7 + ((byteAt frameB 4).toNat * 256 + (byteAt frameB 5).toNat - 1)) ∧
    (let f : List Byte := [0, 9, 0, 0, 0, 0, 1]
     7 ≤ f.length ∧ f.length = 7 + ((byteAt f 4).toNat * 256 + (byteAt f 5).toNat - 1)) := by decide

/-- A group of bytes and a `Closed`, with a `Fault` behind it, for a receive and behind what waits without one; and the close already
known. -/
theorem witness_ReceiveIsIndependentOfSegmentation :
    let group : List Answer := [.byte 0, .fault, .byte 1, .closed, .fault]
    let s := receiving .recv .hdr [] 7
    let t : State := { linked with rxQueue := [.byte 9] }
    let u : State := { linked with rxQueue := [.closed], peerClosed := true }
    (s.rxState ≠ .idle ∧ s.rxQueue = [] ∧ s.peerClosed = false ∧ group.Pairwise fun a b => a = .closed → b.isByte = false) ∧
    (t.rxState = .idle ∧ t.peerClosed = false) ∧ (u.rxState = .idle ∧ u.peerClosed = true ∧ Answer.fault.isByte = false) ∧
    (next? (answersArrive group s)).map (fun t => (flags t, t.rxLen.toNat, t.rxQueue)) =
      some ((0x001, 0x09, 0x200), 1, [.byte 1, .closed, .fault]) := by decide

/-- The greatest legal length and the one above it, and a payload of two bytes. -/
theorem witness_LoadfPutsThePayloadIntoTheFrameBuffer :
    State.reset.pend = .none ∧ 65541 < (65542 : BitVec 24).toNat ∧ (65541 : BitVec 24).toNat ≤ 65541 ∧
    ((2 : BitVec 24).toNat ≤ 65541 ∧ [0xAB#8, 0xCD#8].length = (2 : BitVec 24).toNat) := by decide

/-- The greatest length and its payload. -/
theorem witness_LoadfPutsThePayloadIntoTheFrameBuffer_capacity :
    (List.replicate 65541 0#8).length = (65541 : BitVec 24).toNat := List.length_replicate

/-- Frame B, V54's nine bytes, and V63 with a trailing part. -/
theorem witness_DecodeExtractsTheResponse :
    [frameB, [0, 1, 0, 0, 0, 3, 1, 3, 0], frameB.set 8 6].all (fun f =>
      decide ((loaded f).pend = .none ∧ (loaded f).rxValid = true ∧
        (loaded f).rxBuf.readBytes 0 (loaded f).rxLen.toNat = some f ∧ 9 ≤ f.length ∧
        f.length = (byteAt f 4).toNat * 256 + (byteAt f 5).toNat + 6 ∧ (byteAt f 8).toNat ≤ f.length - 9)) = true := by decide

/-- A state for each clause: no frame, eight bytes (V53), a wrong length field (V59), a byte_count above the data (V61). -/
theorem witness_DecodeReportsTheFirstFailingCheck :
    State.reset.pend = .none ∧ State.reset.rxValid = false ∧
    (loaded (frameB.take 8)).rxBuf.readBytes 0 (loaded (frameB.take 8)).rxLen.toNat = some (frameB.take 8) ∧
    (frameB.take 8).length < 9 ∧
    (let f := frameB.set 5 0x0C
     (loaded f).rxValid = true ∧ (loaded f).rxBuf.readBytes 0 (loaded f).rxLen.toNat = some f ∧ ¬f.length < 9 ∧
     f.length ≠ (byteAt f 4).toNat * 256 + (byteAt f 5).toNat + 6) ∧
    (let f := frameB.set 8 9
     (loaded f).rxValid = true ∧ (loaded f).rxBuf.readBytes 0 (loaded f).rxLen.toNat = some f ∧ ¬f.length < 9 ∧
     f.length = (byteAt f 4).toNat * 256 + (byteAt f 5).toNat + 6 ∧ f.length - 9 < (byteAt f 8).toNat) := by decide

/-- V57 and V58: the last start address that decodes, and the first that does not. -/
theorem witness_EchoedRequestRoundTrip :
    (setRequest 3 ⟨true, true, 1, 7, 1024, 2⟩ State.reset).pend = .none ∧
    (setRequest 3 ⟨true, true, 1, 7, 1024, 2⟩ State.reset).reqAddr.toNat = 1023 ∧
    (setRequest 3 ⟨true, true, 1, 7, 1025, 2⟩ State.reset).reqAddr.toNat = 1024 := by decide

theorem witness_DecodeCanBeRepeated :
    (loaded frameB).pend = .none ∧ (loaded frameB).rxValid = true ∧
    (next? (exec .decode (loaded frameB))).map State.rspValid = some true := by decide

/-- Data that are a whole number of chunks, and data that are not; and no Response. -/
theorem witness_ValuesDeliverEveryWholeChunkInOrder :
    (Instr.valuesInt64, NumType.int64, 8) ∈ [(Instr.valuesInt64, NumType.int64, 8)] ∧ State.reset.rspValid = false ∧
    [[], frameB.drop 9, [1, 2, 3, 4, 5]].all (fun d =>
      decide ((decoded d).pend = .none ∧ (decoded d).rspValid = true ∧
        (decoded d).rspData.readBytes 0 (decoded d).rspBc.toNat = some d)) = true := by decide

/-- The last index and the one above it, of four chunks. -/
theorem witness_ValueDeliversTheIndexedChunk :
    (decoded (frameB.drop 9)).pend = .none ∧ State.reset.rspValid = false ∧
    ((decoded (frameB.drop 9)).rspValid = true ∧ (decoded (frameB.drop 9)).rspBc.toNat / 2 ≤ (4 : Half).toNat) ∧
    (3 : Half).toNat < (decoded (frameB.drop 9)).rspBc.toNat / 2 ∧
    (decoded (frameB.drop 9)).rspData.readBytes 0 (decoded (frameB.drop 9)).rspBc.toNat = some (frameB.drop 9) := by decide

/-- Each range at its ends. -/
theorem witness_ValWordCarriesTheRawValue :
    0 < 65536 ∧ 32767 < 65536 ∧ 32768 < 65536 ∧ 65535 < 65536 ∧ 4294967295 < 4294967296 ∧
    18446744073709551615 < 18446744073709551616 := by decide

theorem witness_ValWordDenotesWhatTheChunkDenotes :
    [0xFF#8, 0xFE#8].length = typeWidth .int16 ∧ [0xC0#8, 0x49#8, 0x0F#8, 0xDB#8].length = typeWidth .float32 ∧
    (frameB.drop 9).length = typeWidth .float64 := by decide

theorem witness_WiderChunkIsTwoNarrowChunksBigEndian : 9 + 2 * 4 ≤ frameB.length ∧ 0 + 2 * 2 ≤ frameB.length := by decide

/-- An index that names a chunk, and one that does not. -/
theorem witness_ValueIsTheElementOfValues :
    (decoded (frameB.drop 9)).pend = .none ∧ (decoded (frameB.drop 9)).rspValid = true ∧
    (decoded (frameB.drop 9)).values = [] ∧
    (next? (exec .valuesUint16 (decoded (frameB.drop 9)))).map State.values = some [1, 2, 3, 4] ∧
    ([1, 2, 3, 4] : List Val)[3]? = some 4 ∧ ([1, 2, 3, 4] : List Val)[4]? = none := by decide

/-- All stages, a failing build, and no session. -/
theorem witness_ReadBuildsSendsAndArms :
    (Instr.readh ops1, 0x03#8) ∈ [(Instr.readc ops1, 0x01#8), (.readh ops1, 0x03#8)] ∧ linked.pend = .none ∧
    buildFailure linked.enforceMaxima 3 ops1 = none ∧ linked.link = true ∧ State.reset.link = false ∧
    buildFailure false 3 ⟨true, true, 1, 1, 0, 4⟩ = some 2 := by decide

theorem witness_ReadEqualsBuildSendRecv :
    (Instr.readc ops1, 0x01#8) ∈ [(Instr.readc ops1, 0x01#8), (.readh ops1, 0x03#8)] ∧ linked.pend = .none ∧
    linked.link = true ∧ buildFailure linked.enforceMaxima 1 ops1 = none := by decide

theorem witness_ReadTransactionEndsAsDecodeOfTheReceivedFrame :
    (Instr.readh ops1, 0x03#8) ∈ [(Instr.readc ops1, 0x01#8), (.readh ops1, 0x03#8)] ∧ linked.pend = .none ∧
    linked.link = true ∧ linked.rxQueue = [] ∧ linked.peerClosed = false ∧
    buildFailure linked.enforceMaxima 3 ops1 = none ∧ 7 ≤ frameB.length ∧
    frameB.length = 7 + ((byteAt frameB 4).toNat * 256 + (byteAt frameB 5).toNat - 1) := by decide

theorem witness_RequestFramePushesItsTwelveBytes :
    (Instr.frameReqReadCoils 0x1234 17 0x13 0x25, 0x01#8) ∈
      [(Instr.frameReqReadCoils 0x1234 17 0x13 0x25, 0x01#8),
        (.frameReqReadHoldingRegisters 0x1234 17 0x13 0x25, 0x03#8)] ∧
    linked.link = true ∧ State.reset.link = false := by decide

/-- Both function codes. -/
theorem witness_SendTransmitsTheWireRowOfItsRequest :
    [1, 3].all (fun fc =>
      let s := setRequest fc ops1 linked
      decide (s.pend = .none ∧ s.reqValid = true ∧ s.link = true ∧ supportedFc s.reqFc = true ∧
        (next? (exec .send s)).isSome = true ∧
        (next? (exec (if s.reqFc = 0x01#8 then .frameReqReadCoils s.reqTid s.reqUnit s.reqAddr s.reqQty
         else .frameReqReadHoldingRegisters s.reqTid s.reqUnit s.reqAddr s.reqQty) s)).isSome = true)) = true := by decide

/-- A `Closed` known, with no receive and with one; nothing armed; just armed, for a RECV and for a READ, with every length that ends
within the nine bytes and with the least and the greatest above; and a body that needs ten bytes. -/
theorem witness_ResponseStartIsReceived :
    (let s : State := { linked with rxQueue := [.closed], peerClosed := true }
     let t : State := { reading 7 with peerClosed := true }
     s.peerClosed = true ∧ s.rxState = .idle ∧ t.peerClosed = true ∧ t.rxQueue = []) ∧
    (linked.peerClosed = false ∧ linked.rxState = .idle) ∧
    [Pend.recv, .read].all (fun p =>
      let s := receiving p .hdr [] 7
      decide (s.peerClosed = false ∧ s.rxQueue = [] ∧ s.rxState = .hdr ∧ s.rxNeed = 7 ∧ s.rxLen = 0 ∧ s.pend = p)) = true ∧
    [(0#16, 7), (1#16, 7), (2#16, 8), (3#16, 9)].all (fun (len, n) =>
      decide (len.toNat ≤ 3 ∧ n = 7 + (len.toNat - 1))) = true ∧
    4 ≤ (4 : Half).toNat ∧ 4 ≤ (0xFFFF : Half).toNat ∧
    (let s := reading 7
     s.peerClosed = false ∧ s.rxQueue = [] ∧ s.rxState = .body ∧ s.rxNeed.toNat = 10 ∧ s.rxLen.toNat + 9 ≤ 65541) := by decide

theorem witness_HeldCommandsChangeNothing :
    onCommandPort .send = true ∧ Instr.send ≠ .disconnect ∧ Instr.send ≠ .reset ∧ (reading 3).pend ≠ .none := by decide

/-- An illegal word behind a held SEND. -/
theorem witness_HeldWordsWaitLegalOrNot :
    let s : State :=
      { reading 3 with
        waiting := [⟨0x120000000000000000000000#96, []⟩]
        inbox := [.arrive (.command ⟨0x110000000000000000000001#96, []⟩)] }
    s.pend ≠ .none ∧ s.inbox = .arrive (.command ⟨0x110000000000000000000001#96, []⟩) :: [] ∧
    ∀ d ∈ s.waiting ++ [⟨0x110000000000000000000001#96, []⟩],
      d.cw ≠ 0x110000000000000000000000#96 ∧ d.cw ≠ 0x010000000000000000000000#96 := by decide

/-- An unassigned opcode, and one reserved bit of each clause, beside test_reserved_bits_refused. -/
theorem witness_IllegalWordsCompleteWithIllegalCommand :
    (State.reset.pend = .none ∧ State.reset.waiting = [] ∧
      ({ State.reset with inbox := [.arrive (.command ⟨0#96, []⟩)] } : State).inbox = .arrive (.command ⟨0#96, []⟩) :: []) ∧
    (0xFF ∉ [0x01, 0x08, 0x10, 0x11, 0x12, 0x13, 0x20, 0x21, 0x28, 0x29, 0x30, 0x31] ∧
      (0xFFFFFFFFFFFFFFFFFFFFFFFF#96).toNat / 2 ^ 88 = 0xFF) ∧
    ((0x010000000000000000000001#96).toNat / 2 ^ 88 = 0x01 ∧ (0x010000000000000000000001#96).extractLsb' 0 88 ≠ 0#88) ∧
    ((0x080703010001000001000400#96).toNat / 2 ^ 88 = 0x08 ∧ (0x080703010001000001000400#96).extractLsb' 82 6 ≠ 0#6) ∧
    ((0x310303010001000001000400#96).toNat / 2 ^ 88 = 0x31 ∧ (0x310303010001000001000400#96).extractLsb' 72 8 ≠ 0#8) ∧
    ((0x290100000000000000000001#96).toNat / 2 ^ 88 = 0x29 ∧ (0x290100000000000000000001#96).extractLsb' 0 64 ≠ 0#64) ∧
    ((0x280100010000000000000000#96).toNat / 2 ^ 88 = 0x28 ∧ (0x280100010000000000000000#96).extractLsb' 64 16 ≠ 0#16) ∧
    ((0x200000000000000001000000#96).toNat / 2 ^ 88 = 0x20 ∧ (0x200000000000000001000000#96).extractLsb' 24 64 ≠ 0#64) := by decide

/-- A command word that arrives, one that waits, and a word of another port. -/
theorem witness_StepRunsTheDecodedInstruction :
    (decode (.command ⟨0x120000000000000000000000#96, []⟩) = .ok .send ∧ built.pend = .none ∧ built.waiting = []) ∧
    ({ built with inbox := [.host], waiting := [⟨0x120000000000000000000000#96, []⟩] } : State).waiting =
      ⟨0x120000000000000000000000#96, []⟩ :: [] ∧
    decode (.answer 0x1C8#10) = .ok (.answerByte 0xC8) := ⟨⟨rfl, rfl, rfl⟩, rfl, rfl⟩

theorem witness_DisconnectAndResetAreTakenWhilePending :
    (reading 3).pend ≠ .none ∧
    (0x110000000000000000000000#96, Instr.disconnect) ∈
      [(0x110000000000000000000000#96, Instr.disconnect), (0x010000000000000000000000#96, .reset)] ∧
    ∀ d ∈ [(⟨0x120000000000000000000000#96, []⟩ : Command)],
      d.cw ≠ 0x110000000000000000000000#96 ∧ d.cw ≠ 0x010000000000000000000000#96 := by decide

/-- A word of each width of the table. -/
theorem witness_PlacedTableWordRunsItsInstruction :
    State.reset.pend = .none ∧ decodeTableWord 96 0x130000000000000000000000 = some .recv ∧
    decodeTableWord 96 0x000100000006010300000004 = some (.frameReqReadHoldingRegisters 1 1 0 4) ∧
    decodeTableWord 72 0x00010000000B010308 = some (.frameRsp 1 0 11 1 3 8) ∧
    decodeTableWord 16 0x1C8 = some (.answerByte 0xC8) := by decide

theorem witness_DecodeOfEncodeIsTheInstruction :
    (Instr.loadf 2 [0xAB, 0xCD]).wf = true ∧ (Instr.build 1 ⟨true, true, 17, 0x1234, 20, 37⟩).wf = true := by decide

theorem witness_EncodeOfDecodeIsTheWord :
    decode (.command ⟨0x200000000000000000000002#96, [0xAB, 0xCD, 0xEF]⟩) = .ok (.loadf 2 [0xAB, 0xCD]) ∧
    decode (.request 0x000100000006010300000004#96) = .ok (.frameReqReadHoldingRegisters 1 1 0 4) := ⟨rfl, rfl⟩

/-- A state in which a receive runs, a frame is half there and a Response is valid. -/
def busy : State := { reading 9 with rspBc := 1, rspLen := 4, rspData := [(0, 7)], rspValid := true }

theorem witness_EveryStepKeepsTheInvariants : Inv busy ∧ step busy = .next busy :=
  ⟨⟨by decide, by decide, by decide, fun _ => ⟨by decide, by decide, by decide, by decide, [0x00, 0x0B], by decide, by decide⟩,
    by decide, by decide, by decide, by decide, by decide, by decide, by decide, by decide, by decide, by decide, by decide⟩, rfl⟩

/-- The statement's hypothesis alone, in the same state. -/
theorem witness_InvariantStatesNeverFault : Inv busy := witness_EveryStepKeepsTheInvariants.1

theorem witness_EveryStepKeepsTheBuffersCanonical :
    buffersWf (reading 9) ∧ (after (.arrive (.answer 0x100#10)) (reading 9)).isSome = true := by decide

theorem witness_ResultsOnlyGrowAndUnreachableKindsNeverAppear :
    (after (.arrive (.answer 0x300#10)) (reading 9)).map State.results = some [⟨.ioError, 0, 0⟩] := by decide

/-- Sticky bits that are set, kept by a success. -/
theorem witness_OnlyResetClearsStickyBits :
    Instr.recv ≠ .reset ∧ ({ linked with errLog := 0x802, seqErr := true } : State).errLog.getLsbD 11 = true ∧
    (next? (exec .recv { linked with errLog := 0x802, seqErr := true })).map (fun t => (t.errLog.toNat, t.seqErr)) =
      some (0x802, true) := by decide

/-- No READ pending; a READ pending, with a command, with a `Closed` and nothing waiting, and with a `Fault` behind a `Closed`. -/
theorem witness_RegisterGroupsHaveTheirWritersOnly :
    ((next? (exec (.loadf 2 [1, 2]) built)).isSome = true ∧ built.pend ≠ .read ∧ Instr.loadf 2 [1, 2] ≠ .decode ∧
      Instr.loadf 2 [1, 2] ≠ .reset) ∧
    (busy.pend = .read ∧ (next? (exec .disconnect busy)).isSome = true) ∧
    ((next? (exec .answerClosed busy)).isSome = true ∧ busy.rxQueue.head? = none) ∧
    (let s : State := { busy with rxQueue := [.closed], peerClosed := true }
     (next? (exec .answerFault s)).isSome = true ∧ s.pend = .read ∧ s.rxQueue.head? = some .closed) := by decide

/-- A command that transmits and one that does not. -/
theorem witness_CommandsEmitOnlyRequestFrames :
    onCommandPort .send = true ∧ (built.reqValid = true → supportedFc built.reqFc = true) ∧
    (next? (exec .send built)).map txStream = some (txbuf built) ∧ (next? (exec .recv built)).map txStream = some [] := by decide

end Sys2Proof.Tests
end

section
/-! The widths of R63: one byte, and a sequence cut in two. -/

namespace Sys2Proof.Machine

/-- beN of one byte: the fold starts at 0, so nothing stands above the byte. -/
@[simp] theorem beNat_singleton (b : Byte) : beNat [b] = b.toNat := by
  simp [beNat]

/-- The first m + n bytes of a sequence that holds them are its first m bytes and then n more, which makes the first part weigh 256 ^ n
(R63). -/
theorem beNat_take_add (bytes : List Byte) (m n : Nat) (h : m + n ≤ bytes.length) :
    beNat (bytes.take (m + n)) = beNat (bytes.take m) * 256 ^ n + beNat ((bytes.drop m).take n) := by
  have low_length : ((bytes.drop m).take n).length = n :=
    List.length_take_of_le (by rw [List.length_drop]; omega)
  rw [List.take_add, beNat_append, low_length]

/-- Settles O36: the wide chunk is the narrow one at o followed by the narrow one at o + w, which holds all of its w bytes because the
wide chunk lies inside d. -/
theorem widerChunkIsTwoNarrowChunksBigEndian : Obligations.WiderChunkIsTwoNarrowChunksBigEndian := by
  refine ⟨beNat_singleton, fun d o w h => ?_⟩
  have inside : w + w ≤ (d.drop o).length := by rw [List.length_drop]; omega
  rw [Nat.two_mul, beNat_take_add _ w w inside, List.drop_drop]

end Sys2Proof.Machine
end

section
/-! The invariants of R44 under each operation of the model: what an operation touches is proved, and every other part is the
one it had. -/

namespace Sys2Proof.Machine

/-! ### The bits of ERRLOG that nothing sets -/

/-- The two bits of ERRLOG that R44 item 8 keeps at 0 are set by no kind but DECODE_ERROR, which R248 excludes. -/
theorem errLog_or_stickyBit {log : BitVec 12} {k : Kind} (h : log.getLsbD 0 = false ∧ log.getLsbD 8 = false)
    (hk : k ≠ .decodeError) :
    (log ||| stickyBit k).getLsbD 0 = false ∧ (log ||| stickyBit k).getLsbD 8 = false := by
  have kept : (stickyBit k).getLsbD 0 = false ∧ (stickyBit k).getLsbD 8 = false := by
    cases k with
    | decodeError => exact absurd rfl hk
    | _ => decide
  obtain ⟨k0, k8⟩ := kept
  obtain ⟨h0, h8⟩ := h
  rw [BitVec.getLsbD_or, BitVec.getLsbD_or, h0, h8, k0, k8]
  decide

/-! ### What no invariant speaks of -/

/-- The ports of the host and the requests to the collaborator are no part of the invariants. -/
theorem Inv.withPorts {s : State} (h : Inv s) (inbox : List Event) (waiting : List Command) (transport : List TransportReq)
    (values : List Val) (readOut : List ReadValue) :
    Inv { s with inbox := inbox, waiting := waiting, transport := transport, values := values, readOut := readOut } :=
  { h with }

/-! ### Completions -/

/-- The end of a command keeps the invariants: with nothing pending any more, only ERRLOG is touched. -/
theorem Inv.after_complete {k : Kind} {sub : BitVec 4} {res : Word32} {s : State} (h : Inv s) (free : s.pend = .none)
    (hk : k ≠ .decodeError) : Inv (complete k sub res s) :=
  { h with
    pend_iff := by simpa [free] using h.pend_iff
    pend_link := by simp
    errLog := errLog_or_stickyBit h.errLog hk }

/-! ### The Request -/

/-- Operands that pass BUILD's checks make a Request that R44 item 4 allows. -/
theorem Inv.after_setRequest {fc : Byte} {o : BuildOperands} {e : Bool} {s : State} (h : Inv s)
    (valid : buildFailure e fc o = none) : Inv (setRequest fc o s) :=
  { h with
    request := fun _ => by
      obtain ⟨-, -, supported, -, -, count⟩ := buildFailure_none e fc o valid
      exact ⟨supported, count⟩ }

theorem Inv.after_invalidateRequest {s : State} (h : Inv s) : Inv (invalidateRequest s) :=
  { h with request := fun valid => by simp at valid }

/-- INFLIGHT is set on a Connected session only (R44 item 7). -/
theorem Inv.after_transmitRequest {s : State} (h : Inv s) (linked : s.link = true) : Inv (transmitRequest s) :=
  { h with inFlight := fun unlinked => by simp [linked] at unlinked }

/-! ### The receive -/

/-- Arming a receive on a Connected session puts RXNEED at the seven bytes of the header and empties RXBUF (R143). -/
theorem Inv.after_armReceive {p : Pend} {s : State} (h : Inv s) (linked : s.link = true) (pending : p ≠ .none) :
    Inv (armReceive p s) :=
  { h with
    pend_iff := by simp [pending]
    idle := by simp
    hdr := by simp
    body := by simp
    pend_link := by simp [linked]
    rxLen := by simp
    frame := by simp }

/-- The end of a receive leaves nothing armed and nothing pending. -/
theorem Inv.after_stopReceive {s : State} (h : Inv s) : Inv { stopReceive s with pend := .none } :=
  { h with
    pend_iff := by simp
    idle := by simp
    hdr := by simp
    body := by simp
    pend_link := by simp }

/-! ### The Response -/

/-- The Response of a frame has its data and the length field of R34: the frame is L + 6 bytes long, nine of them before the
data, and TRAIL
says whether bytes are left behind the data. -/
theorem parseFrame_ok {f : List Byte} {r : Response} (h : parseFrame f = .ok r) :
    r.data.length = r.bc.toNat ∧ 3 + r.bc.toNat ≤ r.len.toNat ∧
      (r.trail = false ↔ r.len.toNat = 3 + r.bc.toNat) := by
  rcases parseFrame_cases f with ⟨-, he⟩ | ⟨-, -, he⟩ | ⟨-, -, -, he⟩ | ⟨long, size, slice, ok⟩
  · rw [he] at h; cases h
  · rw [he] at h; cases h
  · rw [he] at h; cases h
  · rw [ok] at h
    cases h
    refine ⟨?_, ?_, ?_⟩
    · simp; omega
    · simp only; omega
    · simp only [decide_eq_false_iff_not]; omega

/-- The failures of DECODE are none of the kinds that are never reported. -/
theorem parseFrame_error {f : List Byte} {k : Kind} {sub : BitVec 4} (h : parseFrame f = .error (k, sub)) :
    k ≠ .decodeError := by
  rcases parseFrame_cases f with ⟨-, he⟩ | ⟨-, -, he⟩ | ⟨-, -, -, he⟩ | ⟨-, -, -, he⟩ <;>
    (rw [he] at h; cases h) <;> decide

theorem Inv.after_setResponse {f : List Byte} {r : Response} {s : State} (h : Inv s) (ok : parseFrame f = .ok r) :
    Inv (setResponse r s) := by
  obtain ⟨size, room, trailing⟩ := parseFrame_ok ok
  exact
    { h with
      response := fun _ => by
        have written := Memory.offsets_writeBytes_next [] 0 r.data rfl
        rwa [Nat.zero_add, size] at written
      trail := fun _ => ⟨room, trailing⟩ }

theorem Inv.after_invalidateResponse {s : State} (h : Inv s) : Inv (invalidateResponse s) :=
  { h with
    response := fun valid => by simp at valid
    trail := fun valid => by simp at valid }

/-! ### The stream and the session -/

/-- A fresh stream: nothing waits and the peer has not closed. -/
theorem Inv.after_freshStream {s : State} (h : Inv s) : Inv (freshStream s) :=
  { h with
    closedLast := by simp
    closedKnown := by simp
    closedGiven := by simp }

/-- R75 for an answer that joins: no byte joins behind a `Closed`, because the peer's close is known while one waits. -/
theorem Inv.after_queueAnswer {s : State} (h : Inv s) (a : Answer) : Inv (queueAnswer a s) := by
  rcases queueAnswer_cases a s with ⟨-, -, he⟩ | ⟨still_open, ⟨b, rfl⟩, he⟩ | ⟨rfl, he⟩ | ⟨rfl, he⟩ <;> rw [he]
  · exact h
  · have none_closed : Answer.closed ∉ s.rxQueue := fun hc => by simp [h.closedKnown hc] at still_open
    exact
      { h with
        closedLast := by
          refine List.pairwise_append.2 ⟨h.closedLast, by simp, fun x hx _ _ hxc => ?_⟩
          exact absurd (hxc ▸ hx) none_closed
        closedKnown := by simp [none_closed]
        closedGiven := by simp [still_open] }
  · exact
      { h with
        closedLast := List.pairwise_append.2 ⟨h.closedLast, by simp, by simp [Answer.isByte]⟩
        closedKnown := by simp
        closedGiven := by simp }
  · exact
      { h with
        closedLast := List.pairwise_append.2 ⟨h.closedLast, by simp, by simp [Answer.isByte]⟩
        closedKnown := by simpa using h.closedKnown
        closedGiven := fun closed none_closed x hx => by
          simp only [List.mem_append, List.mem_singleton, reduceCtorEq, or_false] at none_closed hx
          rcases hx with hx | rfl
          · exact h.closedGiven closed none_closed x hx
          · rfl }

/-- R75 for an answer that is taken: if it is a `Closed`, no byte is among those behind it. -/
theorem Inv.after_takeAnswer {s : State} {a : Answer} {rest : List Answer} (h : Inv s) (queue : s.rxQueue = a :: rest) :
    Inv { s with rxQueue := rest } := by
  have last := h.closedLast
  have known := h.closedKnown
  have given := h.closedGiven
  rw [queue] at last known given
  exact
    { h with
      closedLast := (List.pairwise_cons.1 last).2
      closedKnown := fun hc => known (List.mem_cons_of_mem a hc)
      closedGiven := fun closed none_closed x hx => by
        by_cases ha : a = .closed
        · exact (List.pairwise_cons.1 last).1 x hx ha
        · exact given closed (by simp [Ne.symm ha, none_closed]) x (List.mem_cons_of_mem a hx) }

/-- The block at its reset values, with what waits in the collaborator, or a fresh stream after a CloseReq (R230). -/
theorem Inv.after_resetBlock {s : State} (h : Inv s) : Inv (resetBlock s) where
  pend_iff := by simp
  idle := by simp
  hdr := by simp
  body := by simp
  pend_link := by simp
  request := by simp
  response := by simp
  trail := by simp
  rxLen := by simp
  frame := by simp
  inFlight := by simp
  errLog := by simp
  closedLast := by rw [resetBlock_rxQueue]; split; exacts [List.Pairwise.nil, h.closedLast]
  closedKnown := by
    rw [resetBlock_rxQueue, resetBlock_peerClosed]
    split
    · simp
    · exact h.closedKnown
  closedGiven := by
    rw [resetBlock_rxQueue, resetBlock_peerClosed]
    split
    · simp
    · exact h.closedGiven

end Sys2Proof.Machine
end

section
/-! R44 over a whole step: every result of the model is sound, a state with the invariants or a refusal, and no fault. -/

namespace Sys2Proof.Machine

/-- A result that keeps the invariants: no fault, and a next state has them. -/
def Sound : Result → Prop
  | .next t => Inv t
  | .fault _ => False
  | .refused _ => True

theorem sound_refused (e : Refusal) : Sound (.refused e) := trivial

theorem Sound.andThen {r : Result} {f : State → Result} (h : Sound r) (hf : ∀ t, Inv t → Sound (f t)) :
    Sound (andThen r f) := by
  cases r with
  | next t => exact hf t h
  | fault e => exact h
  | refused e => exact h

/-- A held command changes nothing, so only the body of one that is taken has something to keep. -/
theorem Inv.after_whenFree {s : State} {body : State → Result} (h : Inv s) (taken : s.pend = .none → Sound (body s)) :
    Sound (whenFree s body) := by
  by_cases free : s.pend = .none
  · rw [whenFree_free s body free]; exact taken free
  · rw [whenFree_held s body free]; exact h

/-- The same for a body that always answers a next state. -/
theorem Inv.after_whenFree_next {s : State} {f : State → State} (h : Inv s) (taken : s.pend = .none → Inv (f s)) :
    Sound (whenFree s fun s => .next (f s)) :=
  h.after_whenFree taken

/-! ### What the buffers hold -/

/-- R30: the bytes of RXBUF below RXLEN are there. -/
theorem Inv.readFrame {s : State} (h : Inv s) (off n : Nat) (inside : off + n ≤ s.rxLen.toNat) :
    ∃ bytes, s.rxBuf.readBytes off n = some bytes := by
  obtain ⟨bytes, hb, -⟩ := Memory.readBytes_isSome s.rxBuf off n fun a _ ha => by
    rw [h.frame, List.mem_range]; omega
  exact ⟨bytes, hb⟩

/-- R33: the bytes of RSPDATA below RSP_BC are there while RSPVALID = 1. -/
theorem Inv.readData {s : State} (h : Inv s) (valid : s.rspValid = true) (off n : Nat)
    (inside : off + n ≤ s.rspBc.toNat) : ∃ bytes, s.rspData.readBytes off n = some bytes := by
  obtain ⟨bytes, hb, -⟩ := Memory.readBytes_isSome s.rspData off n fun a _ ha => by
    rw [h.response valid, List.mem_range]; omega
  exact ⟨bytes, hb⟩

/-! ### The commands -/

theorem Inv.after_buildRequest {s : State} (h : Inv s) (free : s.pend = .none) (fc : Byte) (o : BuildOperands) :
    Inv (buildRequest fc o s) := by
  unfold buildRequest
  split
  · exact h.after_invalidateRequest.after_complete free (by decide)
  · next valid => exact (h.after_setRequest valid).after_complete free (by decide)

/-- The stages of a READ that run at once (R222). -/
theorem Inv.after_startRead {s : State} (h : Inv s) (free : s.pend = .none) (fc : Byte) (o : BuildOperands) :
    Inv (startRead fc o s) := by
  unfold startRead
  split
  · exact h.after_invalidateRequest.after_complete free (by decide)
  · next valid =>
    split
    · exact (h.after_setRequest valid).after_complete free (by decide)
    · next linked =>
      have linked : s.link = true := by simpa using linked
      exact ((h.after_setRequest valid).after_transmitRequest linked).after_armReceive linked (by decide)

/-- CONNECT: nothing is in flight on the fresh stream of a new connection; a refused one only counts in ERRLOG (R140). -/
theorem Inv.after_connectSession {s : State} (h : Inv s) (free : s.pend = .none) : Inv (connectSession s) := by
  have requested : Inv (connectReq s) := by
    unfold connectReq; split <;> exact { h with }
  unfold connectSession
  split
  · exact h.after_complete free (by decide)
  · split
    · have connected : Inv { freshStream (connectReq s) with link := true, connFail := false, inFlight := false } :=
        { requested.after_freshStream with pend_link := by simp, inFlight := by simp }
      exact connected.after_complete (by simpa using free) (by decide)
    · have failed : Inv { connectReq s with
          connFail := true, errLog := s.errLog ||| stickyBit .connectionFailure } :=
        { requested with errLog := errLog_or_stickyBit h.errLog (by decide) }
      exact failed.after_complete (by simpa using free) (by decide)

/-- A forced DISCONNECT ends the pending receive first (R161). -/
theorem Inv.after_abandonReceive {s : State} (h : Inv s) : Inv (abandonReceive s) := by
  unfold abandonReceive
  split
  · exact h
  · exact h.after_stopReceive.after_complete rfl (by decide)

@[simp] theorem abandonReceive_pend (s : State) : (abandonReceive s).pend = .none := by
  unfold abandonReceive; split <;> simp_all

/-- The session ends with nothing pending and nothing in flight (R141). -/
theorem Inv.after_closeSession {s : State} (h : Inv s) (free : s.pend = .none) :
    Inv { closeSession s with inFlight := false } := by
  unfold closeSession
  split
  · exact { h.after_freshStream with pend_link := fun pending => absurd free pending, inFlight := by simp }
  · exact { h with inFlight := by simp }

@[simp] theorem closeSession_pend (s : State) : (closeSession s).pend = s.pend := by
  unfold closeSession; split <;> rfl

theorem Inv.after_execDisconnect {s : State} (h : Inv s) : Sound (execDisconnect s) :=
  (h.after_abandonReceive.after_closeSession (by simp)).after_complete (by simp) (by decide)

theorem Inv.after_sendRequest {s : State} (h : Inv s) (free : s.pend = .none) : Inv (sendRequest s) := by
  unfold sendRequest
  split
  · exact h.after_complete free (by decide)
  · split
    · exact h.after_complete free (by decide)
    · next linked => exact (h.after_transmitRequest (by simpa using linked)).after_complete free (by decide)

theorem Inv.after_startReceive {s : State} (h : Inv s) (free : s.pend = .none) : Inv (startReceive s) := by
  unfold startReceive
  split
  · exact h.after_complete free (by decide)
  · next linked => exact h.after_armReceive (by simpa using linked) (by decide)

/-- LOADF of a well-formed payload fills RXBUF from its start, with nothing armed; a well-formed payload fits (R104, R170). -/
theorem Inv.after_loadFrame {s : State} (h : Inv s) (free : s.pend = .none) {n : BitVec 24} {payload : List Byte}
    (wf : (Instr.loadf n payload).wf = true) : Sound (loadFrame n payload s) := by
  have idle := h.pend_iff.1 free
  unfold loadFrame
  split
  · exact h.after_complete free (by decide)
  · next fits =>
    have fits : n.toNat ≤ Config.rxCap := by omega
    have size : payload.length = n.toNat := by simpa [Instr.wf, loadfTakes, fits] using wf
    have count : (BitVec.ofNat 17 n.toNat).toNat = n.toNat := by
      have cap : Config.rxCap < 2 ^ 17 := by decide
      rw [BitVec.toNat_ofNat, Nat.mod_eq_of_lt (by omega)]
    rw [writeBuffer, if_pos (by omega)]
    have loaded : Inv { s with
        rxBuf := Memory.writeBytes [] 0 payload, rxLen := BitVec.ofNat 17 n.toNat, rxValid := true } :=
      { h with
        hdr := fun armed => by simp [idle] at armed
        body := fun armed => by simp [idle] at armed
        rxLen := by simp only [count]; exact fits
        frame := by
          have written := Memory.offsets_writeBytes_next [] 0 payload rfl
          simp only [count]
          rwa [Nat.zero_add, size] at written }
    exact loaded.after_complete free (by decide)

theorem Inv.after_applyFrame {s : State} (h : Inv s) (free : s.pend = .none) (f : List Byte) : Inv (applyFrame f s) := by
  rcases applyFrame_cases f s with ⟨k, sub, failed, he⟩ | ⟨r, ok, he⟩ <;> rw [he]
  · exact h.after_invalidateResponse.after_complete free (parseFrame_error failed)
  · exact (h.after_setResponse ok).after_complete free (by decide)

/-- DECODE reads the bytes below RXLEN, which RXBUF holds. -/
theorem Inv.after_decodeResponseFrame {s : State} (h : Inv s) (free : s.pend = .none) : Sound (decodeResponseFrame s) := by
  unfold decodeResponseFrame
  split
  · exact h.after_complete free (by decide)
  · obtain ⟨f, hf⟩ := h.readFrame 0 s.rxLen.toNat (by omega)
    rw [hf]
    exact h.after_applyFrame free f

/-- VALUES reads whole chunks, which lie below RSP_BC. -/
theorem Inv.after_deliverValues {s : State} (h : Inv s) (free : s.pend = .none) (ty : NumType) : Sound (deliverValues ty s)
    := by
  unfold deliverValues
  split
  · exact h.after_complete free (by decide)
  · next valid =>
    have chunks : chunkCount ty s.rspBc * typeWidth ty ≤ s.rspBc.toNat := Nat.div_mul_le_self ..
    obtain ⟨data, hd⟩ := h.readData (by simpa using valid) 0 (chunkCount ty s.rspBc * typeWidth ty) (by omega)
    simp only [hd]
    exact (h.withPorts s.inbox s.waiting s.transport _ s.readOut).after_complete free (by decide)

/-- VALUE reads one chunk, which lies below RSP_BC because its index is below the count of chunks. -/
theorem Inv.after_deliverValue {s : State} (h : Inv s) (free : s.pend = .none) (ty : NumType) (index : Half) :
    Sound (deliverValue ty index s) := by
  unfold deliverValue
  split
  · exact h.after_complete free (by decide)
  · next valid =>
    split
    · exact h.after_complete free (by decide)
    · next inside =>
      have chunk : index.toNat * typeWidth ty + typeWidth ty ≤ s.rspBc.toNat := by
        calc index.toNat * typeWidth ty + typeWidth ty = (index.toNat + 1) * typeWidth ty := by ring
          _ ≤ chunkCount ty s.rspBc * typeWidth ty := Nat.mul_le_mul_right _ (by omega)
          _ ≤ s.rspBc.toNat := Nat.div_mul_le_self ..
      obtain ⟨data, hd⟩ := h.readData (by simpa using valid) _ _ chunk
      simp only [hd]
      exact (h.withPorts s.inbox s.waiting s.transport _ s.readOut).after_complete free (by decide)

/-! ### The deframer -/

/-- The state without its receive: the invariants of this state are what they ask of everything but the receive. -/
abbrev unarmed (s : State) : State := { s with rxState := .idle, rxNeed := 0, pend := .none }

/-- The frame is complete when RXBUF holds exactly RXLEN bytes: nothing else is asked of the phase that ends. -/
theorem Inv.after_completedFrame {s : State} (h : Inv (unarmed s)) :
    Inv { completedFrame s with pend := .none } :=
  { h with
    hdr := by simp
    body := by simp
    inFlight := by simp }

theorem Inv.after_frameComplete {s : State} (h : Inv (unarmed s))
    (pending : s.pend ≠ .none) : Sound (frameComplete s) := by
  unfold frameComplete
  split
  · next free => exact absurd free pending
  · exact h.after_completedFrame.after_complete rfl (by decide)
  · exact h.after_completedFrame.after_decodeResponseFrame rfl

/-- The seventh byte: the length field is in RXBUF, and says that the frame is complete or how many bytes the body needs
(R145). -/
theorem Inv.after_headerComplete {s : State} (h : Inv (unarmed s))
    (pending : s.pend ≠ .none) (linked : s.link = true) (seven : s.rxLen.toNat = 7) (invalid : s.rxValid = false) :
    Sound (headerComplete s) := by
  obtain ⟨bytes, hb⟩ := h.readFrame 4 2 (by simp only; omega)
  unfold headerComplete
  simp only at hb
  rw [hb]
  simp only
  split
  · exact h.after_frameComplete pending
  · next remain =>
    have width : remainingBytes (be16 bytes 0) ≤ 65534 := by
      have := (be16 bytes 0).isLt
      unfold remainingBytes
      omega
    have need : (BitVec.ofNat 16 (remainingBytes (be16 bytes 0))).toNat = remainingBytes (be16 bytes 0) := by
      rw [BitVec.toNat_ofNat, Nat.mod_eq_of_lt (by omega)]
    exact
      { h with
        pend_iff := by simp [pending]
        idle := by simp
        hdr := by simp
        body := fun _ => by
          simp only [need]
          exact ⟨by omega, width, by omega, invalid, bytes, hb, by omega⟩
        pend_link := fun _ => linked }

/-- The byte at offset RXLEN: R30 and R44 item 6 with nothing armed, which is what every end of a phase starts from. -/
theorem Inv.after_storedByte {s : State} (h : Inv s) (b : Byte) (room : s.rxLen.toNat + 1 ≤ Config.rxCap)
    (count : (s.rxLen + 1).toNat = s.rxLen.toNat + 1) :
    Inv (unarmed (storedByte b s)) :=
  { h.after_stopReceive with
    hdr := by simp
    body := by simp
    rxLen := by simp only [count]; exact room
    frame := by
      simp only [count]
      exact Memory.offsets_write_next s.rxBuf s.rxLen.toNat b h.frame }

/-- A receive that is armed belongs to a command on a Connected session, holds no complete frame and needs bytes that have
room in
RXBUF: seven in all for the header, at most 65534 behind them (R44 items 1 to 3, R70). -/
theorem Inv.armed {s : State} (h : Inv s) (armed : s.rxState ≠ .idle) :
    s.pend ≠ .none ∧ s.link = true ∧ s.rxValid = false ∧ 1 ≤ s.rxNeed.toNat ∧
      s.rxLen.toNat + s.rxNeed.toNat ≤ Config.rxCap := by
  have pending : s.pend ≠ .none := fun free => armed (h.pend_iff.1 free)
  refine ⟨pending, h.pend_link pending, ?_⟩
  cases phase : s.rxState with
  | idle => exact absurd phase armed
  | hdr =>
    obtain ⟨need, most, len, invalid⟩ := h.hdr phase
    exact ⟨invalid, need, by unfold Config.rxCap; omega⟩
  | body =>
    obtain ⟨need, -, -, invalid, bytes, -, total⟩ := h.body phase
    refine ⟨invalid, need, ?_⟩
    have := (be16 bytes 0).isLt
    unfold remainingBytes at total
    unfold Config.rxCap
    omega

/-- A byte that does not end its phase: RXLEN counts up, RXNEED down, and their sum stays (R144). -/
theorem Inv.after_storedByte_inside {s : State} (h : Inv s) (b : Byte) (armed : s.rxState ≠ .idle)
    (count : (s.rxLen + 1).toNat = s.rxLen.toNat + 1) (down : (s.rxNeed - 1).toNat = s.rxNeed.toNat - 1)
    (more : 2 ≤ s.rxNeed.toNat) : Inv (storedByte b s) := by
  obtain ⟨pending, linked, invalid, need, room⟩ := h.armed armed
  have stored := h.after_storedByte b (by omega) count
  exact
    { stored with
      pend_iff := h.pend_iff
      idle := fun idle => absurd idle armed
      hdr := fun phase => by
        obtain ⟨-, most, len, -⟩ := h.hdr phase
        simp only [count, down]
        exact ⟨by omega, by omega, by omega, invalid⟩
      body := fun phase => by
        obtain ⟨-, most, least, -, bytes, hb, total⟩ := h.body phase
        have kept : (s.rxBuf.writeBytes s.rxLen.toNat [b]).readBytes 4 2 = some bytes := by
          rw [Memory.readBytes_eq_some_iff] at hb ⊢
          refine ⟨hb.1, fun i hi => ?_⟩
          rw [Memory.read?_writeBytes, if_neg (by omega)]
          exact hb.2 i hi
        simp only [count, down]
        exact ⟨by omega, by omega, by omega, invalid, bytes, kept, by omega⟩
      pend_link := fun _ => linked }

/-- The deframer step on a byte (R144 to R146): the byte has room, and it goes on with its phase, ends the header or ends the
body. -/
theorem Inv.after_deframeByte {s : State} (h : Inv s) (b : Byte) (armed : s.rxState ≠ .idle) :
    Sound (deframeByte b s) := by
  obtain ⟨pending, linked, invalid, need, room⟩ := h.armed armed
  have cap : Config.rxCap < 2 ^ 17 - 1 := by decide
  have count : (s.rxLen + 1).toNat = s.rxLen.toNat + 1 := by
    rw [BitVec.toNat_add, Nat.mod_eq_of_lt (by simp; omega)]
    rfl
  have down : (s.rxNeed - 1).toNat = s.rxNeed.toNat - 1 := by
    rw [BitVec.toNat_sub_of_le (by rw [BitVec.le_def]; exact need)]
    rfl
  have stored := h.after_storedByte b (by omega) count
  have fits : writeBuffer Config.rxCap s.rxBuf s.rxLen.toNat [b] = some (s.rxBuf.writeBytes s.rxLen.toNat [b]) :=
    (writeBuffer_eq_some ..).2 ⟨by simp; omega, rfl⟩
  unfold deframeByte
  simp only [fits]
  split
  · next last =>
    have last : s.rxNeed.toNat = 1 := by
      have : (s.rxNeed - 1).toNat = 0 := by rw [last]; rfl
      omega
    split
    · next phase =>
      obtain ⟨-, -, len, -⟩ := h.hdr phase
      exact stored.after_headerComplete pending linked (by simp only [count]; omega) invalid
    · exact stored.after_frameComplete pending
  · next more =>
    refine h.after_storedByte_inside b armed count down ?_
    have : (s.rxNeed - 1).toNat ≠ 0 := fun zero => more (BitVec.eq_of_toNat_eq zero)
    omega

/-- The deframer step on any answer: a `Closed` and a `Fault` end the receive (R147, R148). -/
theorem Inv.after_deframe {s : State} (h : Inv s) (a : Answer) (armed : s.rxState ≠ .idle) : Sound (deframe a s) := by
  cases a with
  | byte b => exact h.after_deframeByte b armed
  | closed => exact h.after_stopReceive.after_complete (sub := closedSub s.rxState) rfl (by decide)
  | fault => exact h.after_stopReceive.after_complete rfl (by decide)

theorem Inv.after_collaboratorTurn {s : State} (h : Inv s) : Sound (collaboratorTurn s) := by
  unfold collaboratorTurn
  split
  · exact h
  · next armed =>
    split
    · exact h
    · next a rest queue => exact (h.after_takeAnswer queue).after_deframe a armed

theorem Inv.after_answerArrives {s : State} (h : Inv s) (a : Answer) : Sound (answerArrives a s) :=
  (h.after_queueAnswer a).after_collaboratorTurn

theorem Inv.after_answersArrive {s : State} (h : Inv s) (answers : List Answer) : Sound (answersArrive answers s) := by
  induction answers generalizing s with
  | nil => exact h
  | cons a as ih => exact (h.after_answerArrives a).andThen fun _ ht => ih ht

/-! ### Instructions, ports and steps -/

theorem Inv.after_transmitFrame {s : State} (h : Inv s) (bytes : List Byte) : Inv (transmitFrame bytes s) := by
  unfold transmitFrame
  split
  · exact h.withPorts s.inbox s.waiting _ s.values s.readOut
  · exact h

/-- Every well-formed instruction keeps the invariants and faults in no state that has them. -/
theorem Inv.after_exec {i : Instr} {s : State} (h : Inv s) (wf : i.wf = true) : Sound (exec i s) := by
  cases i with
  | reset => exact h.after_resetBlock.after_complete rfl (by decide)
  | build fc o => exact h.after_whenFree_next fun free => h.after_buildRequest free fc o
  | connect => exact h.after_whenFree_next fun free => h.after_connectSession free
  | disconnect => exact h.after_execDisconnect
  | send => exact h.after_whenFree_next fun free => h.after_sendRequest free
  | recv => exact h.after_whenFree_next fun free => h.after_startReceive free
  | loadf n payload => exact h.after_whenFree fun free => h.after_loadFrame free wf
  | decode => exact h.after_whenFree fun free => h.after_decodeResponseFrame free
  | valuesInt16 | valuesUint16 | valuesInt32 | valuesUint32 | valuesFloat32 | valuesInt64 | valuesUint64 | valuesFloat64 =>
    exact h.after_whenFree fun free => h.after_deliverValues free _
  | valueInt16 | valueUint16 | valueInt32 | valueUint32 | valueFloat32 | valueInt64 | valueUint64 | valueFloat64 =>
    exact h.after_whenFree fun free => h.after_deliverValue free _ _
  | readc o | readh o => exact h.after_whenFree_next fun free => h.after_startRead free _ o
  | frameReqReadCoils | frameReqReadHoldingRegisters => exact h.after_transmitFrame _
  | frameRsp => exact h.after_answersArrive _
  | answerNone => exact h
  | answerByte | answerClosed | answerFault => exact h.after_answerArrives _

/-- The decoder takes from the data-in port the payload bytes that a LOADF carries (R104). -/
theorem decodeLoadf_wf {n : BitVec 24} {payload : List Byte} {i : Instr} (h : decodeLoadf n payload = .ok i) :
    i.wf = true := by
  unfold decodeLoadf at h
  split at h
  · cases h
  · cases h
    simp [Instr.wf]
    omega

theorem ifReserved_ok {ok : Bool} {i j : Instr} (h : ifReserved ok i = .ok j) : j = i := by
  unfold ifReserved at h
  split at h <;> cases h
  rfl

theorem valuesForm_wf (ty : BitVec 3) : (valuesForm ty).wf = true := by
  unfold valuesForm; split <;> rfl

theorem valueForm_wf (ty : BitVec 3) (index : Half) : (valueForm ty index).wf = true := by
  unfold valueForm; split <;> rfl

/-- What a command word decodes to is well formed: LOADF has its payload, and every other term is as it stands. -/
theorem decodeCommand_wf {c : Command} {i : Instr} (h : decodeCommand c = .ok i) : i.wf = true := by
  unfold decodeCommand at h
  split at h
  case h_7 =>
    split at h
    · exact decodeLoadf_wf h
    · cases h
  case h_9 => rw [ifReserved_ok h]; exact valuesForm_wf _
  case h_10 => rw [ifReserved_ok h]; exact valueForm_wf _ _
  case h_13 => cases h
  all_goals rw [ifReserved_ok h]; rfl

/-- What a word of any port decodes to is well formed. -/
theorem decode_wf {p : PortWord} {i : Instr} (h : decode p = .ok i) : i.wf = true := by
  cases p with
  | command c => exact decodeCommand_wf h
  | request w =>
    simp only [decode, decodeRequest] at h
    split at h
    · split at h <;> cases h <;> rfl
    · cases h
  | response w => cases h; rfl
  | answer w =>
    simp only [decode, decodeAnswer] at h
    split at h
    case h_2 => cases h; rfl
    all_goals split at h <;> cases h; rfl

theorem decodeCommand_disconnectWord (payload : List Byte) :
    decodeCommand ⟨disconnectWord, payload⟩ = .ok .disconnect := by
  simp [decodeCommand, cwOp, ifReserved, reservedN, disconnectWord]

theorem decodeCommand_resetWord (payload : List Byte) : decodeCommand ⟨resetWord, payload⟩ = .ok .reset := by
  simp [decodeCommand, cwOp, ifReserved, reservedN, resetWord]

/-- A word that the port takes while a receive is pending is exactly a legal DISCONNECT or RESET (R160). -/
theorem portAccepts_pending {p : Pend} {c : Command} (h : portAccepts p c = true) (pending : p ≠ .none) :
    decodeCommand c = .ok .disconnect ∨ decodeCommand c = .ok .reset := by
  obtain ⟨cw, payload⟩ := c
  simp only [portAccepts, beq_eq_false_iff_ne.2 pending, Bool.false_or, Bool.or_eq_true, beq_iff_eq] at h
  rcases h with rfl | rfl
  · exact .inl (decodeCommand_disconnectWord payload)
  · exact .inr (decodeCommand_resetWord payload)

/-- A command that the port has taken: an illegal word completes only where nothing is pending (R103, R160). -/
theorem Inv.after_runCommand {s : State} (h : Inv s) {c : Command} (accepted : portAccepts s.pend c = true) :
    Sound (runCommand c s) := by
  have illegal (sub : BitVec 4) {e : Reject} (he : decodeCommand c = .error e) :
      Sound (.next (raiseFailure .illegalCommand sub s)) := by
    refine Inv.after_complete h ?_ (by decide)
    by_contra pending
    rcases portAccepts_pending accepted pending with ok | ok <;> rw [ok] at he <;> cases he
  unfold runCommand
  split
  · next ok => exact h.after_exec (decodeCommand_wf ok)
  · next he => exact illegal 0 he
  · next he => exact illegal 1 he
  all_goals exact sound_refused _

theorem Inv.after_hostTurn {s : State} (h : Inv s) : Sound (hostTurn s) := by
  unfold hostTurn
  split
  · exact h
  · next c rest taken =>
    obtain ⟨-, -, -, -, accepted, -⟩ := takeWaiting_eq_some s.pend s.waiting rest c taken
    exact (h.withPorts s.inbox rest s.transport s.values s.readOut).after_runCommand accepted

theorem Inv.after_wordArrives {s : State} (h : Inv s) (w : PortWord) : Sound (wordArrives w s) := by
  cases w with
  | command c => exact (h.withPorts s.inbox (s.waiting ++ [c]) s.transport s.values s.readOut).after_hostTurn
  | request _ | response _ | answer _ =>
    simp only [wordArrives]
    split
    · next ok => exact h.after_exec (decode_wf ok)
    · exact sound_refused _

/-- One move of one agent (R12): the host's reads are delivered or refused and touch nothing else. -/
theorem Inv.after_handleEvent {s : State} (h : Inv s) (e : Event) : Sound (handleEvent e s) := by
  cases e with
  | arrive w => exact h.after_wordArrives w
  | host => exact h.after_hostTurn
  | collaborator => exact h.after_collaboratorTurn
  | rst => exact h.after_resetBlock
  | readRegister number =>
    simp only [handleEvent, readRegister]
    split
    · exact h.withPorts s.inbox s.waiting s.transport s.values _
    · exact sound_refused _
  | readWindow window offset =>
    simp only [handleEvent, readWindow]
    split
    · exact h.withPorts s.inbox s.waiting s.transport s.values _
    · exact sound_refused _

theorem Inv.after_step {s : State} (h : Inv s) : Sound (step s) := by
  unfold step stepOnce
  split
  · exact h
  · next e es _ => exact (h.withPorts es s.waiting s.transport s.values s.readOut).after_handleEvent e

/-- Settles O54: a step of a state with the invariants is sound. -/
theorem everyStepKeepsTheInvariants : Obligations.EveryStepKeepsTheInvariants := by
  intro s t h hstep
  have sound := h.after_step
  rwa [hstep] at sound

/-- Settles O55: a sound result is no fault. -/
theorem invariantStatesNeverFault : Obligations.InvariantStatesNeverFault := by
  intro s r h hstep
  have sound := h.after_step
  rwa [hstep] at sound

/-- Settles O53: nothing is armed, valid, in flight or recorded at reset, and nothing waits. -/
theorem resetSatisfiesTheInvariants : Obligations.ResetSatisfiesTheInvariants := by
  constructor <;> decide

end Sys2Proof.Machine
end

section
/-! What an instruction that answers a next state has done, once for all instructions: the frame statements of R21 to R36
read it off. -/

namespace Sys2Proof.Machine

/-! ### The deframer, from its outside -/

/-- What a byte does that answers the outstanding RxRead (R144 to R146): it is stored, and the phase goes on, the body is
armed, the frame is
complete for a RECV (or for nothing, which R44 excludes), or DECODE runs on the frame for a READC or READH. -/
theorem deframeByte_cases {b : Byte} {s t : State} (h : deframeByte b s = .next t) :
    t = storedByte b s ∨
    (∃ need, t = { storedByte b s with rxState := .body, rxNeed := need }) ∨
    t = completedFrame (storedByte b s) ∨
    (∃ res, t = complete .ok 0 res (completedFrame (storedByte b s))) ∨
    (s.pend = .read ∧ ∃ f, t = applyFrame f { completedFrame (storedByte b s) with pend := .none }) := by
  have completed (h : frameComplete (storedByte b s) = .next t) :
      t = completedFrame (storedByte b s) ∨ (∃ res, t = complete .ok 0 res (completedFrame (storedByte b s))) ∨
      (s.pend = .read ∧ ∃ f, t = applyFrame f { completedFrame (storedByte b s) with pend := .none }) := by
    rcases frameComplete_next _ _ h with ⟨-, rfl⟩ | ⟨-, rfl⟩ | ⟨read, decoded⟩
    · exact .inl rfl
    · exact .inr (.inl ⟨_, rfl⟩)
    · rcases decodeResponseFrame_next _ _ decoded with ⟨invalid, -⟩ | ⟨-, f, -, rfl⟩
      · cases invalid
      · exact .inr (.inr ⟨read, f, rfl⟩)
  obtain ⟨-, ⟨-, rfl⟩ | ⟨-, -, header⟩ | ⟨-, -, body⟩⟩ := deframeByte_next b s t h
  · exact .inl rfl
  · obtain ⟨_, -, ⟨-, whole⟩ | ⟨-, rfl⟩⟩ := headerComplete_next _ _ header
    · exact .inr (.inr (completed whole))
    · exact .inr (.inl ⟨_, rfl⟩)
  · exact .inr (.inr (completed body))

/-- What an arriving answer does: it joins those that wait, and if a receive is armed the first of all of them is taken. -/
theorem answerArrives_next {a : Answer} {s t : State} (h : answerArrives a s = .next t) :
    t = queueAnswer a s ∨
    ∃ b rest, (queueAnswer a s).rxQueue = b :: rest ∧ deframe b { queueAnswer a s with rxQueue := rest } = .next t := by
  rcases collaboratorTurn_next _ _ h with ⟨-, rfl⟩ | ⟨-, b, rest, queue, taken⟩
  · exact .inl rfl
  · exact .inr ⟨b, rest, queue, taken⟩

/-! ### Instructions -/

/-- The instructions with a build attempt: BUILD, READC and READH (R22). -/
def attemptsBuild (i : Instr) : Prop := (∃ fc o, i = .build fc o) ∨ ∃ o, i = .readc o ∨ i = .readh o

/-- What an instruction has done, in the shared operations of the model. -/
inductive Effect (s : State) : Instr → State → Prop where
  /-- A held command (R160), an answer that is none, a request frame without a session. -/
  | nothing (i : Instr) : Effect s i s
  /-- A failure that changes nothing else. -/
  | fails (i : Instr) (k : Kind) (sub : BitVec 4) : Effect s i (complete k sub 0 s)
  | reset : Effect s .reset (complete .ok 0 0 (resetBlock s))
  /-- A build attempt that fails. -/
  | buildFails (i : Instr) (attempt : attemptsBuild i) (sub : BitVec 4) :
    Effect s i (complete .validation sub 0 (invalidateRequest s))
  /-- A build attempt that succeeds and ends its command. -/
  | builds (i : Instr) (attempt : attemptsBuild i) (fc : Byte) (o : BuildOperands) (k : Kind) :
    Effect s i (complete k 0 0 (setRequest fc o s))
  /-- READC and READH as far as the receive. -/
  | reads (i : Instr) (attempt : attemptsBuild i) (fc : Byte) (o : BuildOperands) :
    Effect s i (armReceive .read (transmitRequest (setRequest fc o s)))
  /-- The fresh stream of a new connection. -/
  | connects (transport : List TransportReq) (rest : List Bool) (free : Nat) : Effect s .connect
    (complete .ok 0 1
      { s with link := true, connFail := false, inFlight := false, rxQueue := [], peerClosed := false,
               transport := transport, connAnswers := rest, free := free })
  | connectFails (transport : List TransportReq) (rest : List Bool) (free : Nat) : Effect s .connect
    (complete .ok 0 0
      { s with connFail := true, errLog := s.errLog ||| stickyBit .connectionFailure,
               transport := transport, connAnswers := rest, free := free })
  /-- The end of a session, after the end of a pending receive (R161). -/
  | disconnects (u : State) (ended : u = s ∨ u = complete .ioError 1 0 (stopReceive s)) (transport : List TransportReq)
    (queue : List Answer) (closed : Bool) : Effect s .disconnect
    (complete .ok 0 0
      { u with link := false, inFlight := false, transport := transport, rxQueue := queue, peerClosed := closed })
  | sends (i : Instr) (res : Word32) : Effect s i (complete .ok 0 res (transmitRequest s))
  | receives (i : Instr) : Effect s i (armReceive .recv s)
  | loads (i : Instr) (payload : List Byte) (len : BitVec 17) (res : Word32) :
    Effect s i (complete .ok 0 res { s with rxBuf := Memory.writeBytes [] 0 payload, rxLen := len, rxValid := true })
  | decodes (f : List Byte) : Effect s .decode (applyFrame f s)
  | delivers (i : Instr) (vals : List Val) (res : Word32) :
    Effect s i (complete .ok 0 res { s with values := s.values ++ vals })
  | transmits (i : Instr) (bytes : List Byte) : Effect s i (txPush bytes s)
  | answerByte (b : Byte) (t : State) (arrived : answerArrives (.byte b) s = .next t) : Effect s (.answerByte b) t
  | answerClosed (t : State) (arrived : answerArrives .closed s = .next t) : Effect s .answerClosed t
  | answerFault (t : State) (arrived : answerArrives .fault s = .next t) : Effect s .answerFault t
  | frameRsp (tid pid len : Half) (unit fc bc : Byte) (t : State)
    (arrived : bytesArrive (responseStart tid pid len unit fc bc) s = .next t) :
    Effect s (.frameRsp tid pid len unit fc bc) t

/-- A held command has no effect, and a taken one that of its body. -/
theorem Effect.of_whenFree {i : Instr} {s t : State} {body : State → Result} (h : whenFree s body = .next t)
    (taken : body s = .next t → Effect s i t) : Effect s i t := by
  rcases whenFree_next s t body h with ⟨-, run⟩ | ⟨-, rfl⟩
  · exact taken run
  · exact .nothing i

/-- The same for a body that always answers a next state. -/
theorem Effect.of_whenFree_next {i : Instr} {s t : State} {f : State → State}
    (h : whenFree s (fun s => .next (f s)) = .next t) (taken : Effect s i (f s)) : Effect s i t :=
  of_whenFree h fun run => by cases run; exact taken

theorem Effect.of_buildRequest (fc : Byte) (o : BuildOperands) (s : State) :
    Effect s (.build fc o) (buildRequest fc o s) := by
  have attempt : attemptsBuild (.build fc o) := .inl ⟨fc, o, rfl⟩
  unfold buildRequest
  split
  · exact .buildFails _ attempt _
  · exact .builds _ attempt fc o .ok

theorem Effect.of_startRead {i : Instr} (attempt : attemptsBuild i) (fc : Byte) (o : BuildOperands) (s : State) :
    Effect s i (startRead fc o s) := by
  unfold startRead
  split
  · exact .buildFails i attempt _
  · split
    · exact .builds i attempt fc o .notConnected
    · exact .reads i attempt fc o

theorem connectReq_eq (s : State) : ∃ transport rest free,
    connectReq s = { s with transport := transport, connAnswers := rest, free := free } := by
  unfold connectReq
  split <;> exact ⟨_, _, _, rfl⟩

theorem Effect.of_connectSession (s : State) : Effect s .connect (connectSession s) := by
  obtain ⟨transport, rest, free, requested⟩ := connectReq_eq s
  unfold connectSession
  rw [requested]
  split
  · exact .fails _ .precondition 3
  · split
    · exact .connects transport rest free
    · exact .connectFails transport rest free

theorem abandonReceive_cases (s : State) :
    abandonReceive s = s ∨ abandonReceive s = complete .ioError 1 0 (stopReceive s) := by
  unfold abandonReceive
  split
  · exact .inl rfl
  · exact .inr rfl

theorem closeSession_eq (s : State) : ∃ transport queue closed,
    closeSession s = { s with link := false, transport := transport, rxQueue := queue, peerClosed := closed } := by
  unfold closeSession
  split
  · exact ⟨_, _, _, rfl⟩
  · next unlinked =>
    have unlinked : s.link = false := by simpa using unlinked
    exact ⟨s.transport, s.rxQueue, s.peerClosed, by rw [← unlinked]⟩

theorem Effect.of_disconnect (s : State) :
    Effect s .disconnect (complete .ok 0 0 { closeSession (abandonReceive s) with inFlight := false }) := by
  obtain ⟨transport, queue, closed, ended⟩ := closeSession_eq (abandonReceive s)
  rw [ended]
  exact .disconnects (abandonReceive s) (abandonReceive_cases s) transport queue closed

theorem Effect.of_sendRequest (s : State) : Effect s .send (sendRequest s) := by
  unfold sendRequest
  split
  · exact .fails _ .precondition 0
  · split
    · exact .fails _ .notConnected 0
    · exact .sends _ _

theorem Effect.of_startReceive (s : State) : Effect s .recv (startReceive s) := by
  unfold startReceive
  split
  · exact .fails _ .notConnected 0
  · exact .receives _

theorem Effect.of_loadFrame {n : BitVec 24} {payload : List Byte} {s t : State} (h : loadFrame n payload s = .next t) :
    Effect s (.loadf n payload) t := by
  rcases loadFrame_next n payload s t h with ⟨-, rfl⟩ | ⟨-, -, rfl⟩
  · exact .fails _ .illegalCommand 2
  · exact .loads _ payload _ _

theorem Effect.of_decodeResponseFrame {s t : State} (h : decodeResponseFrame s = .next t) : Effect s .decode t := by
  rcases decodeResponseFrame_next s t h with ⟨-, rfl⟩ | ⟨-, f, -, rfl⟩
  · exact .fails _ .precondition 1
  · exact .decodes f

theorem Effect.of_deliverValues {i : Instr} {ty : NumType} {s t : State} (h : deliverValues ty s = .next t) :
    Effect s i t := by
  rcases deliverValues_next ty s t h with ⟨-, rfl⟩ | ⟨-, data, -, rfl⟩
  · exact .fails i .precondition 2
  · exact .delivers i _ _

theorem Effect.of_deliverValue {i : Instr} {ty : NumType} {index : Half} {s t : State}
    (h : deliverValue ty index s = .next t) : Effect s i t := by
  rcases deliverValue_next ty index s t h with ⟨-, rfl⟩ | ⟨-, -, rfl⟩ | ⟨-, -, chunk, -, rfl⟩
  · exact .fails i .precondition 2
  · exact .fails i .decodeRange 0
  · exact .delivers i _ _

theorem Effect.of_transmitFrame (i : Instr) (bytes : List Byte) (s : State) : Effect s i (transmitFrame bytes s) := by
  unfold transmitFrame
  split
  · exact .transmits i bytes
  · exact .nothing i

/-- Every instruction that answers a next state has one of the effects. -/
theorem exec_effect {i : Instr} {s t : State} (h : exec i s = .next t) : Effect s i t := by
  cases i with
  | reset => cases h; exact .reset
  | build fc o => exact .of_whenFree_next h (.of_buildRequest fc o s)
  | connect => exact .of_whenFree_next h (.of_connectSession s)
  | disconnect => cases h; exact .of_disconnect s
  | send => exact .of_whenFree_next h (.of_sendRequest s)
  | recv => exact .of_whenFree_next h (.of_startReceive s)
  | loadf n payload => exact .of_whenFree h .of_loadFrame
  | decode => exact .of_whenFree h .of_decodeResponseFrame
  | valuesInt16 | valuesUint16 | valuesInt32 | valuesUint32 | valuesFloat32 | valuesInt64 | valuesUint64 | valuesFloat64 =>
    exact .of_whenFree h .of_deliverValues
  | valueInt16 | valueUint16 | valueInt32 | valueUint32 | valueFloat32 | valueInt64 | valueUint64 | valueFloat64 =>
    exact .of_whenFree h .of_deliverValue
  | readc o => exact .of_whenFree_next h (.of_startRead (.inr ⟨o, .inl rfl⟩) _ o s)
  | readh o => exact .of_whenFree_next h (.of_startRead (.inr ⟨o, .inr rfl⟩) _ o s)
  | frameReqReadCoils | frameReqReadHoldingRegisters => cases h; exact .of_transmitFrame _ _ s
  | frameRsp => exact .frameRsp _ _ _ _ _ _ t h
  | answerNone => cases h; exact .nothing _
  | answerByte b => exact .answerByte b t h
  | answerClosed => exact .answerClosed t h
  | answerFault => exact .answerFault t h

end Sys2Proof.Machine
end

section
/-! The frame statements: which instructions and which answers change which part of the state (R21 to R26, R32, R36, R75). -/

namespace Sys2Proof.Machine

/-! ### What is kept -/

/-- The Request group of two states agrees (R21, R22). -/
def sameRequest (s t : State) : Prop :=
  t.reqUnit = s.reqUnit ∧ t.reqTid = s.reqTid ∧ t.reqFc = s.reqFc ∧ t.reqAddr = s.reqAddr ∧ t.reqQty = s.reqQty ∧
    t.reqValid = s.reqValid

/-- The Response group of two states agrees (R32). -/
def sameResponse (s t : State) : Prop :=
  t.rspTid = s.rspTid ∧ t.rspPid = s.rspPid ∧ t.rspLen = s.rspLen ∧ t.rspUnit = s.rspUnit ∧ t.rspFc = s.rspFc ∧
    t.rspBc = s.rspBc ∧ t.rspData = s.rspData ∧ t.rspValid = s.rspValid ∧ t.trail = s.trail

/-- Every sticky bit that is set stays set (R26, R36). -/
def keepsSticky (s t : State) : Prop :=
  (∀ k, s.errLog.getLsbD k = true → t.errLog.getLsbD k = true) ∧ (s.seqErr = true → t.seqErr = true)

/-- What the answers of the collaborator leave alone, whatever the receive makes of them. -/
structure AnswersKeep (s t : State) : Prop where
  link : t.link = s.link
  request : sameRequest s t
  sticky : keepsSticky s t
  peerClosed : s.peerClosed = true → t.peerClosed = true

theorem sameRequest.refl (s : State) : sameRequest s s := by simp [sameRequest]

theorem sameResponse.refl (s : State) : sameResponse s s := by simp [sameResponse]

theorem sameRequest.trans {s t u : State} (h : sameRequest s t) (h' : sameRequest t u) : sameRequest s u := by
  simp_all [sameRequest]

theorem sameResponse.trans {s t u : State} (h : sameResponse s t) (h' : sameResponse t u) : sameResponse s u := by
  simp_all [sameResponse]

theorem keepsSticky.refl (s : State) : keepsSticky s s := ⟨fun _ => id, id⟩

theorem keepsSticky.trans {s t u : State} (h : keepsSticky s t) (h' : keepsSticky t u) : keepsSticky s u :=
  ⟨fun k => h'.1 k ∘ h.1 k, h'.2 ∘ h.2⟩

/-- A completion only adds to ERRLOG (R262). -/
theorem keepsSticky.complete {s t : State} (h : keepsSticky s t) (k : Kind) (sub : BitVec 4) (res : Word32) :
    keepsSticky s (complete k sub res t) :=
  ⟨fun j set => by simp [BitVec.getLsbD_or, h.1 j set], h.2⟩

theorem AnswersKeep.refl (s : State) : AnswersKeep s s := ⟨rfl, .refl s, .refl s, id⟩

theorem AnswersKeep.trans {s t u : State} (h : AnswersKeep s t) (h' : AnswersKeep t u) : AnswersKeep s u where
  link := h'.link.trans h.link
  request := h.request.trans h'.request
  sticky := h.sticky.trans h'.sticky
  peerClosed := h'.peerClosed ∘ h.peerClosed

theorem AnswersKeep.complete {s t : State} (h : AnswersKeep s t) (k : Kind) (sub : BitVec 4) (res : Word32) :
    AnswersKeep s (complete k sub res t) :=
  { h with sticky := h.sticky.complete k sub res }

/-- DECODE changes the Response group and completes. -/
theorem AnswersKeep.applyFrame {s t : State} (h : AnswersKeep s t) (f : List Byte) : AnswersKeep s (applyFrame f t) := by
  rcases applyFrame_cases f t with ⟨k, sub, -, he⟩ | ⟨r, -, he⟩ <;> rw [he]
  · have kept : AnswersKeep s (invalidateResponse t) := { h with }
    exact kept.complete k sub 0
  · have kept : AnswersKeep s (setResponse r t) := { h with }
    exact kept.complete .ok 0 _

/-! ### The deframer -/

theorem deframe_answersKeep {a : Answer} {s t : State} (h : deframe a s = .next t) : AnswersKeep s t := by
  have stopped : AnswersKeep s (stopReceive s) := { AnswersKeep.refl s with }
  rcases deframe_next a s t h with ⟨b, -, hb⟩ | ⟨-, rfl⟩ | ⟨-, rfl⟩
  · have stored : AnswersKeep s (storedByte b s) := { AnswersKeep.refl s with }
    have completed : AnswersKeep s (completedFrame (storedByte b s)) := { stored with }
    rcases deframeByte_cases hb with rfl | ⟨need, rfl⟩ | rfl | ⟨res, rfl⟩ | ⟨-, f, rfl⟩
    · exact stored
    · exact { stored with }
    · exact completed
    · exact completed.complete .ok 0 res
    · have free : AnswersKeep s { completedFrame (storedByte b s) with pend := .none } := { completed with }
      exact free.applyFrame f
  · exact stopped.complete _ _ _
  · exact stopped.complete _ _ _

/-- An answer that joins sets the mark of the close, and never clears it. -/
theorem queueAnswer_answersKeep (a : Answer) (s : State) : AnswersKeep s (queueAnswer a s) := by
  rcases queueAnswer_cases a s with ⟨-, -, he⟩ | ⟨-, -, he⟩ | ⟨-, he⟩ | ⟨-, he⟩ <;> rw [he]
  · exact .refl s
  · exact { AnswersKeep.refl s with }
  · exact { AnswersKeep.refl s with peerClosed := fun _ => rfl }
  · exact { AnswersKeep.refl s with }

theorem answerArrives_answersKeep {a : Answer} {s t : State} (h : answerArrives a s = .next t) : AnswersKeep s t := by
  rcases answerArrives_next h with rfl | ⟨b, rest, -, taken⟩
  · exact queueAnswer_answersKeep a s
  · have popped : AnswersKeep s { queueAnswer a s with rxQueue := rest } := { queueAnswer_answersKeep a s with }
    exact popped.trans (deframe_answersKeep taken)

theorem bytesArrive_answersKeep {bytes : List Byte} {s t : State} (h : bytesArrive bytes s = .next t) : AnswersKeep s t :=
  bytesArrive_keeps (AnswersKeep s) (fun _ _ _ kept arrived => kept.trans (answerArrives_answersKeep arrived)) bytes s t
    (.refl s) h

/-- The Response group changes with an answer only where a byte is taken for a READC or READH, which runs DECODE (R32). -/
theorem deframe_sameResponse {a : Answer} {s t : State} (h : deframe a s = .next t)
    (noRead : s.pend = .read → ∀ b, a ≠ .byte b) : sameResponse s t := by
  rcases deframe_next a s t h with ⟨b, rfl, hb⟩ | ⟨-, rfl⟩ | ⟨-, rfl⟩
  · rcases deframeByte_cases hb with rfl | ⟨need, rfl⟩ | rfl | ⟨res, rfl⟩ | ⟨read, f, rfl⟩
    · exact .refl s
    · exact .refl s
    · exact .refl s
    · exact .refl s
    · exact absurd rfl (noRead read b)
  · exact .refl s
  · exact .refl s

/-- No answer makes a READ pending. -/
theorem deframe_noRead {a : Answer} {s t : State} (h : deframe a s = .next t) (noRead : s.pend ≠ .read) :
    t.pend ≠ .read := by
  rcases deframe_next a s t h with ⟨b, rfl, hb⟩ | ⟨-, rfl⟩ | ⟨-, rfl⟩
  · rcases deframeByte_cases hb with rfl | ⟨need, rfl⟩ | rfl | ⟨res, rfl⟩ | ⟨read, -⟩
    · exact noRead
    · exact noRead
    · exact noRead
    · simp
    · exact absurd read noRead
  · simp
  · simp

@[simp] theorem queueAnswer_pend (a : Answer) (s : State) : (queueAnswer a s).pend = s.pend := by
  rcases queueAnswer_cases a s with ⟨-, -, he⟩ | ⟨-, -, he⟩ | ⟨-, he⟩ | ⟨-, he⟩ <;> rw [he]

theorem queueAnswer_sameResponse (a : Answer) (s : State) : sameResponse s (queueAnswer a s) := by
  rcases queueAnswer_cases a s with ⟨-, -, he⟩ | ⟨-, -, he⟩ | ⟨-, he⟩ | ⟨-, he⟩ <;> rw [he] <;> exact .refl s

/-- Behind what waits, a `Closed` or a `Fault` puts no byte first. -/
theorem queueAnswer_head_noByte {a : Answer} {s : State} (ends : a.isByte = false)
    (first : ∀ b, s.rxQueue.head? ≠ some (.byte b)) (b : Byte) : (queueAnswer a s).rxQueue.head? ≠ some (.byte b) := by
  have joined : (queueAnswer a s).rxQueue = s.rxQueue ++ [a] := by
    cases a with
    | byte => cases ends
    | closed => rfl
    | fault => rfl
  rw [joined]
  cases queue : s.rxQueue with
  | nil => rintro ⟨⟩; cases ends
  | cons c rest => simpa [queue] using first b

theorem answerArrives_sameResponse {a : Answer} {s t : State} (h : answerArrives a s = .next t)
    (noRead : s.pend = .read → ∀ b, (queueAnswer a s).rxQueue.head? ≠ some (.byte b)) : sameResponse s t := by
  rcases answerArrives_next h with rfl | ⟨c, rest, queue, taken⟩
  · exact queueAnswer_sameResponse a s
  · have same := deframe_sameResponse taken fun read b he =>
      noRead (by simpa using read) b (by simp [queue, he])
    exact (queueAnswer_sameResponse a s).trans same

theorem answerArrives_noRead {a : Answer} {s t : State} (h : answerArrives a s = .next t) (noRead : s.pend ≠ .read) :
    t.pend ≠ .read := by
  rcases answerArrives_next h with rfl | ⟨c, rest, -, taken⟩
  · simpa using noRead
  · exact deframe_noRead taken (by simpa using noRead)

theorem bytesArrive_sameResponse {bytes : List Byte} {s t : State} (h : bytesArrive bytes s = .next t)
    (noRead : s.pend ≠ .read) : sameResponse s t := by
  have kept := bytesArrive_keeps (fun u => u.pend ≠ .read ∧ sameResponse s u)
    (fun _ _ _ ⟨noRead, same⟩ arrived =>
      ⟨answerArrives_noRead arrived noRead,
        same.trans (answerArrives_sameResponse arrived fun read => absurd read noRead)⟩)
    bytes s t ⟨noRead, .refl s⟩ h
  exact kept.2

end Sys2Proof.Machine
end

section
/-! The frame statements, read off the effects of the instructions. -/

namespace Sys2Proof.Machine

/-- Each instruction leaves LINK, or is CONNECT and sets it, or is DISCONNECT or RESET and clears it (R24). -/
theorem Effect.link {s t : State} {i : Instr} (h : Effect s i t) :
    t.link = s.link ∨ (i = .connect ∧ t.link = true) ∨ ((i = .disconnect ∨ i = .reset) ∧ t.link = false) := by
  cases h with
  | reset => exact .inr (.inr ⟨.inr rfl, rfl⟩)
  | connects => exact .inr (.inl ⟨rfl, rfl⟩)
  | disconnects => exact .inr (.inr ⟨.inl rfl, rfl⟩)
  | decodes f => exact .inl (AnswersKeep.applyFrame (.refl s) f).link
  | answerByte _ _ arrived | answerClosed _ arrived | answerFault _ arrived => exact .inl (answerArrives_answersKeep
    arrived).link
  | frameRsp _ _ _ _ _ _ _ arrived => exact .inl (bytesArrive_answersKeep arrived).link
  | _ => exact .inl rfl

/-- Settles O16, by what the effect of each instruction does to LINK. -/
theorem linkChangesOnlyByConnectDisconnectAndReset : Obligations.LinkChangesOnlyByConnectDisconnectAndReset := by
  intro i s t h
  rcases (exec_effect h).link with same | ⟨connect, on⟩ | ⟨ends, off⟩
  · exact ⟨fun off on => by simp [same, off] at on, fun on off => by simp [same, on] at off⟩
  · exact ⟨fun _ _ => connect, fun _ off => by simp [on] at off⟩
  · exact ⟨fun _ on => by simp [off] at on, fun _ _ => ends⟩

/-- Every instruction but RESET only adds sticky bits (R26, R36). -/
theorem Effect.sticky {s t : State} {i : Instr} (h : Effect s i t) (noReset : i ≠ .reset) : keepsSticky s t := by
  have refl := keepsSticky.refl s
  have sent : keepsSticky s (transmitRequest s) := ⟨refl.1, fun set => by simp [seqErrAfterSend, set]⟩
  cases h with
  | reset => exact absurd rfl noReset
  | connectFails =>
    have counted (k : Nat) (set : s.errLog.getLsbD k = true) :
        (s.errLog ||| stickyBit .connectionFailure).getLsbD k = true := by simp [BitVec.getLsbD_or, set]
    exact ⟨fun k set => by rw [complete_ok_errLog]; exact counted k set, refl.2⟩
  | disconnects u ended =>
    rcases ended with rfl | rfl
    · exact refl.complete .ok 0 0
    · exact (refl.complete .ioError 1 0).complete .ok 0 0
  | sends => exact sent.complete .ok 0 _
  | reads => exact ⟨refl.1, fun set => by simp [seqErrAfterSend, set]⟩
  | decodes f => exact (AnswersKeep.applyFrame (.refl s) f).sticky
  | answerByte _ _ arrived | answerClosed _ arrived | answerFault _ arrived => exact (answerArrives_answersKeep arrived).sticky
  | frameRsp _ _ _ _ _ _ _ arrived => exact (bytesArrive_answersKeep arrived).sticky
  | nothing | receives | transmits => exact refl
  | _ => refine keepsSticky.complete ?_ _ _ _; exact refl

/-- Settles O58: the bits of the statement are those of ERRLOG below 12, and SEQERR. -/
theorem onlyResetClearsStickyBits : Obligations.OnlyResetClearsStickyBits := by
  intro i s t noReset h
  obtain ⟨errLog, seqErr⟩ := (exec_effect h).sticky noReset
  exact ⟨fun k _ => errLog k, seqErr⟩

/-- The Request group is written by a build attempt and by RESET (R21, R22). -/
theorem Effect.request {s t : State} {i : Instr} (h : Effect s i t) (noReset : i ≠ .reset)
    (noBuild : ¬attemptsBuild i) : sameRequest s t := by
  cases h with
  | reset => exact absurd rfl noReset
  | buildFails _ attempt => exact absurd attempt noBuild
  | builds _ attempt => exact absurd attempt noBuild
  | reads _ attempt => exact absurd attempt noBuild
  | disconnects u ended => rcases ended with hu | hu <;> rw [hu] <;> exact .refl s
  | decodes f => exact (AnswersKeep.applyFrame (.refl s) f).request
  | answerByte _ _ arrived | answerClosed _ arrived | answerFault _ arrived => exact (answerArrives_answersKeep arrived).request
  | frameRsp _ _ _ _ _ _ _ arrived => exact (bytesArrive_answersKeep arrived).request
  | _ => exact .refl s

/-- The Response group is written by DECODE, by RESET, and by the bytes that complete a READ (R32). -/
theorem Effect.response {s t : State} {i : Instr} (h : Effect s i t) (noReset : i ≠ .reset) (noDecode : i ≠ .decode)
    (noByte : s.pend = .read → (∀ b, i ≠ .answerByte b) ∧
      (∀ tid pid len unit fc bc, i ≠ .frameRsp tid pid len unit fc bc) ∧
      (i = .answerClosed ∨ i = .answerFault → ∀ b, s.rxQueue.head? ≠ some (.byte b))) : sameResponse s t := by
  cases h with
  | reset => exact absurd rfl noReset
  | decodes => exact absurd rfl noDecode
  | disconnects u ended => rcases ended with hu | hu <;> rw [hu] <;> exact .refl s
  | answerByte b _ arrived =>
    exact answerArrives_sameResponse arrived fun read => absurd rfl ((noByte read).1 b)
  | answerClosed _ arrived =>
    exact answerArrives_sameResponse arrived fun read => queueAnswer_head_noByte rfl ((noByte read).2.2 (.inl rfl))
  | answerFault _ arrived =>
    exact answerArrives_sameResponse arrived fun read => queueAnswer_head_noByte rfl ((noByte read).2.2 (.inr rfl))
  | frameRsp _ _ _ _ _ _ _ arrived =>
    exact bytesArrive_sameResponse arrived fun read => absurd rfl ((noByte read).2.1 _ _ _ _ _ _)
  | _ => exact .refl s

/-- Settles O59: without BUILD, READC and READH no build is attempted. -/
theorem registerGroupsHaveTheirWritersOnly : Obligations.RegisterGroupsHaveTheirWritersOnly := by
  intro i s t h noReset
  refine ⟨fun noBuild noRead => (exec_effect h).request noReset ?_,
    fun noDecode noByte => (exec_effect h).response noReset noDecode noByte⟩
  rintro (⟨fc, o, rfl⟩ | ⟨o, rfl | rfl⟩)
  · exact noBuild fc o rfl
  · exact (noRead o).1 rfl
  · exact (noRead o).2 rfl

/-! ### Whole steps -/

/-- What every instruction, illegal word and reset keeps, and what does not depend on the ports, every step keeps. -/
theorem step_keeps (P : State → Prop)
    (ports : ∀ s inbox waiting readOut, P s → P { s with inbox := inbox, waiting := waiting, readOut := readOut })
    (runs : ∀ i s t, P s → exec i s = .next t → P t)
    (illegal : ∀ s sub, P s → P (raiseFailure .illegalCommand sub s))
    (turns : ∀ s t, P s → collaboratorTurn s = .next t → P t) (resets : ∀ s, P s → P (resetBlock s)) {s t : State} (hs : P s)
        (h : step s = .next t) : P t := by
  have host (s : State) (hs : P s) (h : hostTurn s = .next t) : P t := by
    rcases hostTurn_next s t h with rfl | ⟨c, rest, -, run⟩
    · exact hs
    · have taken := ports s s.inbox rest s.readOut hs
      rcases runCommand_next c _ t run with ⟨i, -, hi⟩ | ⟨-, rfl⟩ | ⟨-, rfl⟩
      · exact runs i _ t taken hi
      · exact illegal _ 0 taken
      · exact illegal _ 1 taken
  rcases step_next s t h with ⟨-, rfl⟩ | ⟨e, es, -, moved⟩
  · exact hs
  · have waits := ports s es s.waiting s.readOut hs
    rcases handleEvent_next e _ t moved with
      ⟨w, -, arrived⟩ | ⟨-, turn⟩ | ⟨-, turn⟩ | ⟨-, rfl⟩ | ⟨v, rfl⟩
    · rcases wordArrives_next w _ t arrived with ⟨c, -, turn⟩ | ⟨i, -, -, run⟩
      · exact host _ (ports s es (s.waiting ++ [c]) s.readOut hs) turn
      · exact runs i _ t waits run
    · exact host _ waits turn
    · exact turns _ t waits turn
    · exact resets _ waits
    · exact ports s es s.waiting _ hs

/-! ### The canonical form of the buffers (log entry 2) -/

theorem buffersWf_applyFrame {s : State} (h : buffersWf s) (f : List Byte) : buffersWf (applyFrame f s) := by
  obtain ⟨rxBuf, -⟩ := h
  rcases applyFrame_cases f s with ⟨k, sub, -, he⟩ | ⟨r, -, he⟩ <;> rw [he]
  · exact ⟨rxBuf, Memory.wf_nil⟩
  · exact ⟨rxBuf, Memory.wf_writeBytes [] 0 r.data Memory.wf_nil⟩

theorem buffersWf_deframe {a : Answer} {s t : State} (hs : buffersWf s) (h : deframe a s = .next t) : buffersWf t := by
  obtain ⟨rxBuf, rspData⟩ := hs
  rcases deframe_next a s t h with ⟨b, rfl, hb⟩ | ⟨-, rfl⟩ | ⟨-, rfl⟩
  · have stored : buffersWf (storedByte b s) := ⟨Memory.wf_writeBytes s.rxBuf _ [b] rxBuf, rspData⟩
    rcases deframeByte_cases hb with rfl | ⟨need, rfl⟩ | rfl | ⟨res, rfl⟩ | ⟨-, f, rfl⟩
    · exact stored
    · exact stored
    · exact stored
    · exact stored
    · refine buffersWf_applyFrame ?_ f
      exact stored
  · exact ⟨rxBuf, rspData⟩
  · exact ⟨rxBuf, rspData⟩

theorem buffersWf_collaboratorTurn {s t : State} (hs : buffersWf s) (h : collaboratorTurn s = .next t) :
    buffersWf t := by
  rcases collaboratorTurn_next s t h with ⟨-, rfl⟩ | ⟨-, a, rest, -, taken⟩
  · exact hs
  · exact buffersWf_deframe (s := { s with rxQueue := rest }) hs taken

theorem buffersWf_answerArrives {a : Answer} {s t : State} (hs : buffersWf s) (h : answerArrives a s = .next t) :
    buffersWf t := by
  refine buffersWf_collaboratorTurn ?_ h
  rcases queueAnswer_cases a s with ⟨-, -, he⟩ | ⟨-, -, he⟩ | ⟨-, he⟩ | ⟨-, he⟩ <;> rw [he] <;> exact hs

theorem Effect.buffers {s t : State} {i : Instr} (h : Effect s i t) (hs : buffersWf s) : buffersWf t := by
  have ⟨_, rspData⟩ := hs
  cases h with
  | reset => exact ⟨Memory.wf_nil, Memory.wf_nil⟩
  | reads | receives => exact ⟨Memory.wf_nil, rspData⟩
  | disconnects u ended => rcases ended with hu | hu <;> rw [hu] <;> exact hs
  | loads _ payload => exact ⟨Memory.wf_writeBytes [] 0 payload Memory.wf_nil, rspData⟩
  | decodes f => exact buffersWf_applyFrame hs f
  | answerByte _ _ arrived | answerClosed _ arrived | answerFault _ arrived => exact buffersWf_answerArrives hs arrived
  | frameRsp _ _ _ _ _ _ _ arrived =>
    exact bytesArrive_keeps buffersWf (fun _ _ _ => buffersWf_answerArrives) _ s t hs arrived
  | _ => exact hs

/-- Settles O56: every effect writes the buffers by canonical writes or empties them. -/
theorem everyStepKeepsTheBuffersCanonical : Obligations.EveryStepKeepsTheBuffersCanonical := by
  intro s t hs h
  exact step_keeps buffersWf (ports := fun _ _ _ _ => id) (runs := fun _ _ _ hs run => (exec_effect run).buffers hs)
    (illegal := fun _ _ => id) (turns := fun _ _ => buffersWf_collaboratorTurn)
    (resets := fun _ _ => ⟨Memory.wf_nil, Memory.wf_nil⟩) hs h

end Sys2Proof.Machine
end

section
/-! The answers that wait in the collaborator (R42, R75, R252; log entries 7 and 23). -/

namespace Sys2Proof.Machine

/-! ### The deframer does not look at what waits -/

/-- A state with another collaborator behind it: other answers wait, and the peer's close is known or not. -/
def withStream (queue : List Answer) (closed : Bool) (s : State) : State := { s with rxQueue := queue, peerClosed := closed }

/-- What a deframer operation does is the same before every collaborator. -/
def ignoresStream (f : State → Result) : Prop :=
  ∀ queue closed s, f (withStream queue closed s) = andThen (f s) fun t => .next (withStream queue closed t)

theorem applyFrame_withStream (f : List Byte) (queue : List Answer) (closed : Bool) (s : State) :
    applyFrame f (withStream queue closed s) = withStream queue closed (applyFrame f s) := by
  unfold applyFrame
  split <;> rfl

theorem decodeResponseFrame_ignoresStream : ignoresStream decodeResponseFrame := by
  intro queue closed s
  simp only [decodeResponseFrame, withStream]
  by_cases invalid : s.rxValid = false
  · rw [if_pos invalid]
    exact if_pos invalid
  · rw [if_neg invalid]
    refine (if_neg invalid).trans ?_
    cases frame : s.rxBuf.readBytes 0 s.rxLen.toNat with
    | none => rfl
    | some f => exact congrArg Host.Outcome.next (applyFrame_withStream f queue closed s)

theorem frameComplete_ignoresStream : ignoresStream frameComplete := by
  intro queue closed s
  simp only [frameComplete, withStream]
  cases s.pend with
  | none => rfl
  | recv => rfl
  | read => exact decodeResponseFrame_ignoresStream queue closed { completedFrame s with pend := .none }

theorem headerComplete_ignoresStream : ignoresStream headerComplete := by
  intro queue closed s
  simp only [headerComplete, withStream]
  cases s.rxBuf.readBytes 4 2 with
  | none => rfl
  | some bytes =>
    by_cases whole : remainingBytes (be16 bytes 0) = 0
    · simp only [if_pos whole]; exact frameComplete_ignoresStream queue closed s
    · simp only [if_neg whole]; rfl

theorem deframeByte_ignoresStream (b : Byte) : ignoresStream (deframeByte b) := by
  intro queue closed s
  simp only [deframeByte, withStream]
  cases writeBuffer Config.rxCap s.rxBuf s.rxLen.toNat [b] with
  | none => rfl
  | some m =>
    simp only
    by_cases last : s.rxNeed - 1 = 0
    · rw [if_pos last]
      refine (if_pos last).trans ?_
      by_cases header : s.rxState = .hdr
      · rw [if_pos header]
        exact (if_pos header).trans (headerComplete_ignoresStream queue closed
          { s with rxBuf := m, rxLen := s.rxLen + 1, rxNeed := s.rxNeed - 1 })
      · rw [if_neg header]
        exact (if_neg header).trans (frameComplete_ignoresStream queue closed
          { s with rxBuf := m, rxLen := s.rxLen + 1, rxNeed := s.rxNeed - 1 })
    · rw [if_neg last]
      exact if_neg last

theorem deframe_ignoresStream (a : Answer) : ignoresStream (deframe a) := by
  cases a with
  | byte b => exact deframeByte_ignoresStream b
  | closed => exact fun _ _ _ => rfl
  | fault => exact fun _ _ _ => rfl

/-- An answer that a receive takes has the same effect from either stream: a next state from one is that state from the
other. -/
theorem deframe_withStream_next {a : Answer} {queue : List Answer} {closed : Bool} {s t : State}
    (h : deframe a (withStream queue closed s) = .next t) (queue' : List Answer) (closed' : Bool) :
    deframe a (withStream queue' closed' s) = .next (withStream queue' closed' t) := by
  rw [deframe_ignoresStream] at h ⊢
  obtain ⟨u, hu, ht⟩ := andThen_next _ _ _ h
  cases ht
  rw [hu]
  rfl

/-! ### The collaborator's turn -/

theorem collaboratorTurn_idle {s : State} (idle : s.rxState = .idle) : collaboratorTurn s = .next s := if_pos idle

theorem collaboratorTurn_empty {s : State} (queue : s.rxQueue = []) : collaboratorTurn s = .next s := by
  unfold collaboratorTurn
  split
  · rfl
  · rw [queue]

theorem collaboratorTurn_armed {s : State} {a : Answer} {rest : List Answer} (armed : s.rxState ≠ .idle)
    (queue : s.rxQueue = a :: rest) : collaboratorTurn s = deframe a { s with rxQueue := rest } := by
  unfold collaboratorTurn
  rw [if_neg armed, queue]

theorem collaboratorTurn_withStream_cons {s : State} (armed : s.rxState ≠ .idle) (a : Answer) (rest : List Answer)
    (closed : Bool) : collaboratorTurn (withStream (a :: rest) closed s) = deframe a (withStream rest closed s) :=
  collaboratorTurn_armed (s := withStream (a :: rest) closed s) armed rfl

theorem step_collaborator {s : State} {es : List Event} (turn : s.inbox = .collaborator :: es) :
    step s = collaboratorTurn { s with inbox := es } := by
  unfold step stepOnce
  rw [turn]
  rfl

theorem queueAnswer_byte_open {s : State} (still_open : s.peerClosed = false) (b : Byte) :
    queueAnswer (.byte b) s = { s with rxQueue := s.rxQueue ++ [.byte b] } := by
  simp [queueAnswer, still_open]

theorem queueAnswer_byte_closed {s : State} (closed : s.peerClosed = true) (b : Byte) : queueAnswer (.byte b) s = s := by
  simp [queueAnswer, closed]

/-- An answer that arrives on an open stream with nothing waiting stands alone, whatever it is. -/
theorem queueAnswer_first (a : Answer) (s : State) :
    ∃ closed, queueAnswer a (withStream [] false s) = withStream [a] closed s := by
  cases a with
  | byte b => exact ⟨false, rfl⟩
  | closed => exact ⟨true, rfl⟩
  | fault => exact ⟨false, rfl⟩

/-- What a receive makes of an answer that arrives alone, it makes of that answer where it waits first. -/
theorem collaboratorTurn_takes_first {s t : State} {a : Answer} {rest : List Answer} (armed : s.rxState ≠ .idle)
    (queue : s.rxQueue = a :: rest) (arrived : answerArrives a (withStream [] false s) = .next t) :
    collaboratorTurn s = .next (withStream rest s.peerClosed t) := by
  obtain ⟨closed, alone⟩ := queueAnswer_first a s
  rw [answerArrives, alone, collaboratorTurn_withStream_cons armed] at arrived
  rw [collaboratorTurn_armed armed queue]
  exact deframe_withStream_next arrived rest s.peerClosed

/-- The mark of the peer's close is cleared by a new connection and by the end of this one only (R75). -/
theorem Effect.peerClosed {s t : State} {i : Instr} (h : Effect s i t) (closed : s.peerClosed = true) :
    t.peerClosed = true ∨ i = .connect ∨ i = .disconnect ∨ i = .reset := by
  cases h with
  | reset => exact .inr (.inr (.inr rfl))
  | connects => exact .inr (.inl rfl)
  | disconnects => exact .inr (.inr (.inl rfl))
  | decodes f => exact .inl ((AnswersKeep.applyFrame (.refl s) f).peerClosed closed)
  | answerByte _ _ arrived | answerClosed _ arrived | answerFault _ arrived =>
    exact .inl ((answerArrives_answersKeep arrived).peerClosed closed)
  | frameRsp _ _ _ _ _ _ _ arrived => exact .inl ((bytesArrive_answersKeep arrived).peerClosed closed)
  | _ => exact .inl closed

/-- Settles O24: while nothing is armed an answer only joins the queue; a receive takes the first; what arrives while others
wait is a turn
with the longer queue; a byte behind a `Closed` does not join. -/
theorem answersWaitUntilAReceiveTakesThem : Obligations.AnswersWaitUntilAReceiveTakesThem := by
  refine ⟨fun s idle => ⟨fun still_open b => ?_, collaboratorTurn_idle idle, collaboratorTurn_idle idle⟩, ?_, ?_, ?_, ?_⟩
  · change collaboratorTurn (queueAnswer (.byte b) s) = _
    rw [queueAnswer_byte_open still_open]
    exact collaboratorTurn_idle idle
  · intro s a i rest es row armed queue turn t arrived
    rw [step_collaborator turn]
    refine collaboratorTurn_takes_first (s := { s with inbox := es }) armed queue ?_
    rcases row with ⟨b, row⟩ | row | row <;> cases row <;> exact arrived
  · intro s es turn
    refine ⟨fun still_open b => ?_, ?_, ?_⟩
    · rw [step_collaborator (s := { s with rxQueue := s.rxQueue ++ [.byte b] }) turn]
      exact congrArg collaboratorTurn (queueAnswer_byte_open (s := { s with inbox := es }) still_open b)
    · exact (step_collaborator (s := { s with rxQueue := s.rxQueue ++ [.closed], peerClosed := true }) turn).symm
    · exact (step_collaborator (s := { s with rxQueue := s.rxQueue ++ [.fault] }) turn).symm
  · intro s b closed nothing
    change collaboratorTurn (queueAnswer (.byte b) s) = _
    rw [queueAnswer_byte_closed closed]
    exact nothing.elim collaboratorTurn_idle collaboratorTurn_empty
  · exact fun i s t closed h => (exec_effect h).peerClosed closed

end Sys2Proof.Machine
end

section
/-! What the host reads: the status registers (R37, R38), the windows (R39), and both after a reset (R43). -/

namespace Sys2Proof.Machine

/-! ### STATUS -/

theorem statusWord_bits (s : State) :
    (statusWord s).getLsbD 0 = s.link ∧ (statusWord s).getLsbD 1 = s.reqValid ∧ (statusWord s).getLsbD 2 = s.rxValid ∧
    (statusWord s).getLsbD 3 = s.rspValid ∧ (statusWord s).getLsbD 8 = s.inFlight ∧
    (statusWord s).getLsbD 9 = s.seqErr ∧ (statusWord s).getLsbD 10 = s.connFail ∧ (statusWord s).getLsbD 11 = s.trail := by
  refine ⟨?_, ?_, ?_, ?_, ?_, ?_, ?_, ?_⟩ <;>
    (change BitVec.getLsbD (w := 20+1+1+1+1+2+2+1+1+1+1) _ _ = _
     simp only [statusWord, BitVec.getLsbD_append]
     simp)

theorem statusWord_rxState (s : State) : (statusWord s).extractLsb' 4 2 = rxStateCode s.rxState := by
  change BitVec.extractLsb' (n := 20+1+1+1+1+2+2+1+1+1+1) 4 2 _ = _
  simp (disch := omega) only [statusWord, BitVec.extractLsb'_append_eq_of_le, BitVec.extractLsb'_append_eq_of_add_le,
    Nat.reduceSub, BitVec.extractLsb'_eq_self]

theorem statusWord_pend (s : State) : (statusWord s).extractLsb' 6 2 = pendCode s.pend := by
  change BitVec.extractLsb' (n := 20+1+1+1+1+2+2+1+1+1+1) 6 2 _ = _
  simp (disch := omega) only [statusWord, BitVec.extractLsb'_append_eq_of_le, BitVec.extractLsb'_append_eq_of_add_le,
    Nat.reduceSub, BitVec.extractLsb'_eq_self]

theorem statusWord_reserved (s : State) : (statusWord s).extractLsb' 12 20 = 0#20 := by
  change BitVec.extractLsb' (n := 20+1+1+1+1+2+2+1+1+1+1) 12 20 _ = _
  simp (disch := omega) only [statusWord, BitVec.extractLsb'_append_eq_of_le, Nat.reduceSub, BitVec.extractLsb'_eq_self]

/-- Settles O2, one field of the word after the other. -/
theorem statusWordShowsEachFlagAtItsBit : Obligations.StatusWordShowsEachFlagAtItsBit := by
  intro s
  obtain ⟨link, reqValid, rxValid, rspValid, inFlight, seqErr, connFail, trail⟩ := statusWord_bits s
  refine ⟨statusWord s, rfl, link, reqValid, rxValid, rspValid, ?_, ?_, inFlight, seqErr, connFail, trail,
    statusWord_reserved s⟩
  · rw [statusWord_rxState]; cases s.rxState <;> rfl
  · rw [statusWord_pend]; cases s.pend <;> rfl

/-! ### SR1 to SR9 -/

/-- A register of one field in the low bits and 0 above it. -/
theorem fields_setWidth {w : Nat} (v : BitVec w) (n : Nat) :
    (v.setWidth (n + w)).extractLsb' 0 w = v ∧ (v.setWidth (n + w)).extractLsb' w n = 0#n := by
  refine ⟨?_, BitVec.eq_of_getLsbD_eq fun i _ => ?_⟩
  · rw [BitVec.extractLsb'_setWidth_of_le (by omega), BitVec.extractLsb'_eq_self]
  · rw [BitVec.getLsbD_extractLsb', BitVec.getLsbD_setWidth, BitVec.getLsbD_of_ge v (w + i) (by omega)]
    simp

/-- A register of two fields. -/
theorem fields_append {m n : Nat} (hi : BitVec m) (lo : BitVec n) :
    (hi ++ lo).extractLsb' n m = hi ∧ (hi ++ lo).extractLsb' 0 n = lo :=
  ⟨BitVec.extractLsb'_append_eq_left, BitVec.extractLsb'_append_eq_right⟩

/-- A register of three fields. -/
theorem fields_append_append {l m n : Nat} (hi : BitVec l) (mid : BitVec m) (lo : BitVec n) :
    (hi ++ mid ++ lo).extractLsb' (m + n) l = hi ∧ (hi ++ mid ++ lo).extractLsb' n m = mid ∧
      (hi ++ mid ++ lo).extractLsb' 0 n = lo := by
  refine ⟨?_, ?_, BitVec.extractLsb'_append_eq_right⟩
  · rw [BitVec.extractLsb'_append_eq_of_le (by omega), Nat.add_sub_cancel, BitVec.extractLsb'_append_eq_left]
  · rw [BitVec.extractLsb'_append_eq_of_le (by omega), Nat.sub_self, BitVec.extractLsb'_append_eq_right]

/-- Settles O3: a register that R231 lets the host read is the concatenation of its fields. -/
theorem statusRegistersShowTheirFields : Obligations.StatusRegistersShowTheirFields := by
  intro s
  refine ⟨⟨_, rfl, fields_setWidth s.err 24⟩, ⟨_, rfl, fields_setWidth s.errLog 20⟩, fun valid => ⟨?_, ?_⟩,
    ⟨_, rfl, fields_setWidth s.rxLen 15⟩, ⟨_, rfl, fields_setWidth s.rxNeed 16⟩, fun valid => ⟨?_, ?_, ?_⟩⟩
  · exact ⟨_, if_pos valid, fields_append_append s.reqTid s.reqFc s.reqUnit⟩
  · exact ⟨_, if_pos valid, fields_append s.reqAddr s.reqQty⟩
  · exact ⟨_, if_pos valid, fields_append s.rspTid s.rspPid⟩
  · exact ⟨_, if_pos valid, fields_append_append s.rspLen s.rspUnit s.rspFc⟩
  · exact ⟨_, if_pos valid, fields_setWidth s.rspBc 24⟩

/-! ### The windows -/

/-- Settles O5: each window is its buffer where its guard holds. -/
theorem windowsShowTheBuffers : Obligations.WindowsShowTheBuffers :=
  fun _ _ => ⟨fun valid _ => if_pos valid, fun inside => if_pos inside, fun valid inside => if_pos ⟨valid, inside⟩⟩

/-! ### After a reset -/

/-- Without a Request and a Response the five registers that R43 leaves unspecified are refused. -/
theorem readStatus_unspecified {s : State} (noRequest : s.reqValid = false) (noResponse : s.rspValid = false) :
    ∀ number ∈ [3, 4, 7, 8, 9], readStatus s number = none := by
  simp [readStatus, noRequest, noResponse]

/-- With nothing built, received or decoded no window byte is specified. -/
theorem readWindowByte_unspecified {s : State} (noRequest : s.reqValid = false) (noFrame : s.rxLen = 0)
    (noResponse : s.rspValid = false) (window offset : Nat) : readWindowByte s window offset = none := by
  unfold readWindowByte
  split <;> simp [noRequest, noFrame, noResponse]

/-- Settles O6: RESET is the reset block and one record, whatever was pending. -/
theorem resetGivesEveryPieceOfStateItsResetValue : Obligations.ResetGivesEveryPieceOfStateItsResetValue := by
  intro s
  refine ⟨complete .ok 0 0 (resetBlock s), rfl, rfl, rfl, rfl, rfl, rfl, rfl, rfl, rfl, rfl, rfl, rfl, rfl, rfl,
    complete_ok_errLog 0 0 _, readStatus_unspecified rfl rfl, readWindowByte_unspecified rfl rfl rfl, ?_⟩
  simp

/-- Settles O8: at reset nothing is valid, and no move waits. -/
theorem resetStateReadsAsTheSpecSays : Obligations.ResetStateReadsAsTheSpecSays :=
  ⟨by decide, readStatus_unspecified rfl rfl, readWindowByte_unspecified rfl rfl rfl, rfl⟩

end Sys2Proof.Machine
end

section
/-! The deframer on the bytes of one frame (R70, R144 to R146): the state of a receive after k of them, and the frame-complete
after the last. -/

namespace Sys2Proof.Machine

/-! ### The deframer step, forwards -/

/-- A byte that has room is stored; only the last byte of a phase does more (R144). -/
theorem deframeByte_eq {s : State} (b : Byte) (room : s.rxLen.toNat < Config.rxCap) :
    deframeByte b s =
      if s.rxNeed - 1 = 0 then
        if s.rxState = .hdr then headerComplete (storedByte b s) else frameComplete (storedByte b s)
      else .next (storedByte b s) := by
  have fits : writeBuffer Config.rxCap s.rxBuf s.rxLen.toNat [b] = some (s.rxBuf.writeBytes s.rxLen.toNat [b]) :=
    (writeBuffer_eq_some ..).2 ⟨room, rfl⟩
  simp only [deframeByte, fits]

/-- A big-endian pair among the first n bytes of f is the pair of f at its offset (R15). -/
theorem be16_part (f : List Byte) {n o : Nat} (inside : o + 2 ≤ n) : be16 (((f.take n).drop o).take 2) 0 = be16 f o := by
  have first : o < n := by omega
  have second : o + 1 < n := by omega
  simp [be16, byteAt, first, second]

/-- A receive in another phase, or with another count of the bytes it needs. -/
def withPhase (phase : RxState) (need : Half) (s : State) : State := { s with rxState := phase, rxNeed := need }

/-- frame-complete sets the phase and its count, so those it finds do not matter (R146). -/
theorem frameComplete_withPhase (phase : RxState) (need : Half) (s : State) :
    frameComplete (withPhase phase need s) = frameComplete s := rfl

/-- The end of the header reads the length field of the frame whose first seven bytes are in RXBUF (R145). -/
theorem headerComplete_eq {f : List Byte} {s : State} (header : s.rxBuf.readBytes 0 7 = some (f.take 7)) :
    headerComplete s =
      if remainingBytes (be16 f 4) = 0 then frameComplete s
      else .next (withPhase .body (BitVec.ofNat 16 (remainingBytes (be16 f 4))) s) := by
  have field := Memory.readBytes_part s.rxBuf 7 (f.take 7) header 4 2 (by omega)
  simp only [headerComplete, field, be16_part f (show 4 + 2 ≤ 7 by omega), withPhase]

/-- frame-complete for a RECV (R146). -/
theorem frameComplete_recv {s : State} (recv : s.pend = .recv) :
    frameComplete s = .next (complete .ok 0 (s.rxLen.setWidth 32) (completedFrame s)) := by
  simp only [frameComplete, recv]
  rfl

/-- A byte that arrives alone on an open stream is taken by the receive that is armed. -/
theorem answerArrives_byte_armed {s : State} (armed : s.rxState ≠ .idle) (queue : s.rxQueue = [])
    (still_open : s.peerClosed = false) (b : Byte) : answerArrives (.byte b) s = deframeByte b s := by
  have alone : withStream [] false s = s :=
    calc withStream [] false s = withStream s.rxQueue s.peerClosed s := by rw [queue, still_open]
      _ = s := rfl
  have joined : queueAnswer (.byte b) s = withStream [.byte b] false s := by
    rw [queueAnswer_byte_open still_open, queue, withStream, ← still_open]
    rfl
  rw [answerArrives, joined, collaboratorTurn_withStream_cons armed, alone]
  rfl

/-- One more byte arrives where those before it have led. -/
theorem bytesArrive_concat {bytes : List Byte} {s t : State} (before : bytesArrive bytes s = .next t) (b : Byte) :
    bytesArrive (bytes ++ [b]) s = answerArrives (.byte b) t := by
  have last : answersArrive [.byte b] t = answerArrives (.byte b) t := by
    simp only [answersArrive, andThen]
    split <;> simp_all
  rw [bytesArrive, List.map_append, answersArrive_append _ _ s t before]
  exact last

/-! ### A receive that has taken the first bytes of a frame -/

/-- The phase of a receive after k bytes: seven bytes are the header (R143, R145). -/
def phaseAfter (k : Nat) : RxState := if k < 7 then .hdr else .body

/-- How many bytes of f the phase of a receive still needs after k of them. -/
def needAfter (f : List Byte) (k : Nat) : Nat := if k < 7 then 7 - k else f.length - k

/-- A phase that needs one byte more is the header before its seventh byte, or the body before the last byte of f. -/
theorem needAfter_eq_one {f : List Byte} {k : Nat} (last : needAfter f k = 1) : k = 6 ∨ 7 ≤ k ∧ k + 1 = f.length := by
  by_cases header : k < 7
  · rw [needAfter, if_pos header] at last; omega
  · rw [needAfter, if_neg header] at last; omega

/-- A byte that does not end its phase leaves the phase. -/
theorem phaseAfter_succ {f : List Byte} {k : Nat} (more : needAfter f k ≠ 1) : phaseAfter (k + 1) = phaseAfter k := by
  by_cases header : k < 7
  · have inside : k + 1 < 7 := by rw [needAfter, if_pos header] at more; omega
    rw [phaseAfter, phaseAfter, if_pos inside, if_pos header]
  · rw [phaseAfter, phaseAfter, if_neg (by omega), if_neg header]

/-- A byte that does not end its phase counts down what the phase needs. -/
theorem needAfter_succ {f : List Byte} {k : Nat} (inside : k < f.length) (more : needAfter f k ≠ 1) :
    needAfter f (k + 1) + 1 = needAfter f k := by
  unfold needAfter at more ⊢
  split at more <;> split <;> omega

/-- The state of a receive for p, armed in s, that has taken the first k bytes of f. -/
def collecting (p : Pend) (f : List Byte) (s : State) (k : Nat) : State :=
  { s with
    pend := p
    rxValid := false
    rxState := phaseAfter k
    rxNeed := BitVec.ofNat 16 (needAfter f k)
    rxBuf := Memory.writeBytes [] 0 (f.take k)
    rxLen := BitVec.ofNat 17 k }

theorem phaseAfter_ne_idle (k : Nat) : phaseAfter k ≠ .idle := by
  unfold phaseAfter
  split <;> decide

theorem collecting_rxLen_toNat {k : Nat} (small : k ≤ Config.rxCap) (p : Pend) (f : List Byte) (s : State) :
    (collecting p f s k).rxLen.toNat = k := by
  rw [collecting, BitVec.toNat_ofNat, Nat.mod_eq_of_lt (by unfold Config.rxCap at small; omega)]

/-- RXBUF holds what has been taken, from its start. -/
theorem collecting_readBytes {f : List Byte} {k : Nat} (inside : k ≤ f.length) (p : Pend) (s : State) :
    (collecting p f s k).rxBuf.readBytes 0 k = some (f.take k) := by
  have written := Memory.readBytes_writeBytes [] 0 (f.take k)
  rwa [List.length_take_of_le inside] at written

/-- The next byte of f makes k + 1 bytes; what is left to say is the phase and its count. -/
theorem storedByte_collecting {f : List Byte} {k : Nat} (inside : k < f.length) (small : k ≤ Config.rxCap) (p : Pend)
    (s : State) :
    storedByte f[k] (collecting p f s k) =
      withPhase (phaseAfter k) (BitVec.ofNat 16 (needAfter f k) - 1) (collecting p f s (k + 1)) := by
  have buffer : Memory.writeBytes [] 0 (f.take (k + 1)) = (Memory.writeBytes [] 0 (f.take k)).writeBytes k [f[k]] := by
    rw [List.take_succ_eq_append_getElem inside, Memory.writeBytes_append, List.length_take_of_le inside.le, Nat.zero_add]
  have count : BitVec.ofNat 17 (k + 1) = BitVec.ofNat 17 k + 1 := BitVec.ofNat_add k 1
  unfold storedByte
  rw [collecting_rxLen_toNat small]
  simp only [withPhase, collecting, buffer, count]

/-- RXNEED counts down to 0 exactly where one byte is missing: the count fits the register. -/
theorem need_sub_one_eq_zero {n : Nat} (small : n < 2 ^ 16) : BitVec.ofNat 16 n - 1 = 0 ↔ n = 1 := by
  bv_omega

/-- The frame f has the length its length field declares: seven bytes, and L - 1 behind them (R96, R145). -/
def HasDeclaredLength (f : List Byte) : Prop := f.length = 7 + remainingBytes (be16 f 4)

theorem HasDeclaredLength.bounds {f : List Byte} (declared : HasDeclaredLength f) :
    7 ≤ f.length ∧ f.length ≤ Config.rxCap := by
  have width := (be16 f 4).isLt
  unfold HasDeclaredLength remainingBytes at declared
  unfold Config.rxCap
  omega

/-- The seventh byte: the length field says that the frame is complete, or that the rest of f is needed. -/
theorem headerComplete_collecting {f : List Byte} (declared : HasDeclaredLength f) (p : Pend) (s : State) (phase : RxState)
    (need : Half) :
    headerComplete (withPhase phase need (collecting p f s 7)) =
      if 7 = f.length then frameComplete (collecting p f s 7) else .next (collecting p f s 7) := by
  have seven := declared.bounds.1
  have rest : remainingBytes (be16 f 4) = f.length - 7 := by unfold HasDeclaredLength at declared; omega
  rw [headerComplete_eq (s := withPhase phase need (collecting p f s 7)) (collecting_readBytes seven p s),
    rest, frameComplete_withPhase]
  by_cases whole : 7 = f.length
  · rw [if_pos whole, if_pos (by omega)]
  · rw [if_neg whole, if_neg (by omega)]
    rfl

/-- One byte of f further: the receive goes on, and at the last byte the frame is complete. -/
theorem answerArrives_collecting {f : List Byte} {s : State} {k : Nat} (declared : HasDeclaredLength f)
    (queue : s.rxQueue = []) (still_open : s.peerClosed = false) (p : Pend) (inside : k < f.length) :
    answerArrives (.byte f[k]) (collecting p f s k) =
      if k + 1 = f.length then frameComplete (collecting p f s (k + 1)) else .next (collecting p f s (k + 1)) := by
  obtain ⟨seven, cap⟩ := declared.bounds
  have room : (collecting p f s k).rxLen.toNat < Config.rxCap := by rw [collecting_rxLen_toNat (by omega)]; omega
  have ends : (collecting p f s k).rxNeed - 1 = 0 ↔ needAfter f k = 1 :=
    need_sub_one_eq_zero (by unfold Config.rxCap at cap; unfold needAfter; split <;> omega)
  rw [answerArrives_byte_armed (s := collecting p f s k) (phaseAfter_ne_idle k) queue still_open, deframeByte_eq _ room,
    storedByte_collecting inside (by omega) p s, frameComplete_withPhase]
  by_cases last : needAfter f k = 1
  · rw [if_pos (ends.2 last)]
    rcases needAfter_eq_one last with rfl | ⟨body, whole⟩
    · exact headerComplete_collecting declared p s _ _
    · have phase : (collecting p f s k).rxState ≠ .hdr := by simp [collecting, phaseAfter, body]
      rw [if_neg phase, if_pos whole]
  · rw [if_neg (mt ends.1 last)]
    have need : BitVec.ofNat 16 (needAfter f k) - 1 = BitVec.ofNat 16 (needAfter f (k + 1)) := by
      rw [← needAfter_succ inside last, BitVec.ofNat_add]
      exact BitVec.add_sub_cancel _ _
    have more : k + 1 ≠ f.length := fun whole => last (by unfold needAfter; split <;> omega)
    rw [if_neg more, need, ← phaseAfter_succ last]
    rfl

/-- After k bytes of f, fewer than all, a receive is still collecting (R144, R145). -/
theorem bytesArrive_take {f : List Byte} {s : State} (declared : HasDeclaredLength f) (queue : s.rxQueue = [])
    (still_open : s.peerClosed = false) (p : Pend) {k : Nat} (inside : k < f.length) :
    bytesArrive (f.take k) (armReceive p s) = .next (collecting p f s k) := by
  induction k with
  | zero => rfl
  | succ k ih =>
    rw [List.take_succ_eq_append_getElem (by omega), bytesArrive_concat (ih (by omega)),
      answerArrives_collecting declared queue still_open p, if_neg (by omega)]

/-- All bytes of f are one frame-complete, at the last of them (R146). -/
theorem bytesArrive_frame {f : List Byte} {s : State} (declared : HasDeclaredLength f) (queue : s.rxQueue = [])
    (still_open : s.peerClosed = false) (p : Pend) :
    bytesArrive f (armReceive p s) = frameComplete (collecting p f s f.length) := by
  obtain ⟨before, inside⟩ : ∃ before, before + 1 = f.length := ⟨f.length - 1, by have := declared.bounds; omega⟩
  have whole : f = f.take before ++ [f[before]] := by
    rw [← List.take_succ_eq_append_getElem, inside, List.take_length]
  calc bytesArrive f (armReceive p s)
      = bytesArrive (f.take before ++ [f[before]]) (armReceive p s) := by rw [← whole]
    _ = answerArrives (.byte f[before]) (collecting p f s before) :=
        bytesArrive_concat (bytesArrive_take declared queue still_open p (by omega)) _
    _ = frameComplete (collecting p f s f.length) := by
        rw [answerArrives_collecting declared queue still_open p, if_pos inside, inside]

/-! ### RECV -/

/-- A RECV that is taken on a Connected session arms the deframer (R143). -/
theorem exec_recv_linked {s : State} (free : s.pend = .none) (linked : s.link = true) :
    exec .recv s = .next (armReceive .recv s) := by
  have started : startReceive s = armReceive .recv s := if_neg (by simp [linked])
  rw [← started]
  exact whenFree_free s (fun s => .next (startReceive s)) free

/-- Settles O25: RECV arms the deframer, which collects the frame byte by byte and completes at the last. -/
theorem receiveTakesExactlyTheDeclaredFrame : Obligations.ReceiveTakesExactlyTheDeclaredFrame := by
  intro f s free linked queue still_open _ size
  have declared : HasDeclaredLength f := by rw [HasDeclaredLength, remainingBytes, be16_toNat]; exact size
  have cap := declared.bounds.2
  refine ⟨armReceive .recv s, exec_recv_linked free linked, fun k inside => ?_, ?_⟩
  · exact ⟨collecting .recv f s k, bytesArrive_take declared queue still_open .recv inside, rfl, rfl,
      collecting_rxLen_toNat (by omega) .recv f s, collecting_readBytes inside.le .recv s, rfl⟩
  · have held := collecting_readBytes (le_refl f.length) .recv s
    rw [List.take_length] at held
    refine ⟨_, (bytesArrive_frame declared queue still_open .recv).trans (frameComplete_recv rfl), ?_, queue, ?_⟩
    · rw [complete_rxLen, collecting_rxLen_toNat cap]
      exact held
    · have sticky : s.errLog ||| stickyBit .ok = s.errLog := complete_ok_errLog 0 0 s
      have result : (BitVec.ofNat 17 f.length).setWidth 32 = BitVec.ofNat 32 f.length := by
        unfold Config.rxCap at cap
        bv_omega
      simp only [complete, collecting, sticky, result, free]
      rfl

end Sys2Proof.Machine
end

section
/-! A word is the concatenation of its fields: the encoder, given the fields of a word, writes that word (R92, R93, R98 to R101,
R107). -/

namespace Sys2Proof

/-- A bit of a word as a field of length 1. -/
theorem ofBool_getLsbD {n : Nat} (x : BitVec n) (i : Nat) : BitVec.ofBool (x.getLsbD i) = x.extractLsb' i 1 := by
  ext j inside
  simp [show j = 0 by omega]

theorem encodeN_fields {cw : CommandWord} (reserved : reservedN cw = true) : encodeN (cwOp cw) = cw := by
  have low : cw.extractLsb' 0 88 = 0#88 := eq_of_beq reserved
  rw [encodeN, cwOp, ← low]
  exact BitVec.extractLsb'_append_extractLsb' (w := 8)

theorem encodeB_fields {cw : CommandWord} (reserved : reservedB cw = true) :
    encodeB (cwOp cw) (cwFc cw) (cwBuildOperands cw) = cw := by
  simp only [reservedB, Bool.and_eq_true, beq_iff_eq] at reserved
  obtain ⟨high, low⟩ := reserved
  simp (disch := rfl) only [encodeB, cwOp, cwFc, cwBuildOperands, ← high, ← low, ofBool_getLsbD,
    BitVec.extractLsb'_append_extractLsb'_eq_extractLsb']
  exact BitVec.extractLsb'_eq_self

theorem encodeV_fields {cw : CommandWord} (reserved : reservedV cw = true) :
    encodeV (cwOp cw) (cwType cw) (cwIndex cw) = cw := by
  simp only [reservedV, Bool.and_eq_true, beq_iff_eq] at reserved
  obtain ⟨high, low⟩ := reserved
  simp (disch := rfl) only [encodeV, cwOp, cwType, cwIndex, ← high, ← low,
    BitVec.extractLsb'_append_extractLsb'_eq_extractLsb']
  exact BitVec.extractLsb'_eq_self

theorem encodeL_fields {cw : CommandWord} (reserved : reservedL cw = true) : encodeL (cwOp cw) (cwNbytes cw) = cw := by
  have middle : cw.extractLsb' 24 64 = 0#64 := eq_of_beq reserved
  simp (disch := rfl) only [encodeL, cwOp, cwNbytes, ← middle, BitVec.extractLsb'_append_extractLsb'_eq_extractLsb']
  exact BitVec.extractLsb'_eq_self

theorem encodeRequest_fields {w : BitVec 96} (protocol : w.extractLsb' 64 16 = 0x0000#16)
    (length : w.extractLsb' 48 16 = 0x0006#16) :
    encodeRequest (w.extractLsb' 32 8) (w.extractLsb' 80 16) (w.extractLsb' 40 8) (w.extractLsb' 16 16) (w.extractLsb' 0 16) =
      w := by
  simp (disch := rfl) only [encodeRequest, ← protocol, ← length, BitVec.extractLsb'_append_extractLsb'_eq_extractLsb']
  exact BitVec.extractLsb'_eq_self

theorem encodeResponse_fields (w : BitVec 72) :
    encodeResponse (w.extractLsb' 56 16) (w.extractLsb' 40 16) (w.extractLsb' 24 16) (w.extractLsb' 16 8) (w.extractLsb' 8 8)
      (w.extractLsb' 0 8) = w := by
  simp (disch := rfl) only [encodeResponse, BitVec.extractLsb'_append_extractLsb'_eq_extractLsb']
  exact BitVec.extractLsb'_eq_self

theorem encodeAnswer_fields (w : AnswerWord) : encodeAnswer (w.extractLsb' 8 2) (w.extractLsb' 0 8) = w :=
  BitVec.extractLsb'_append_extractLsb' (w := 2)

/-- The form of VALUES that a TYPE code selects is encoded with that code (R95, R102). -/
theorem encode_valuesForm (ty : BitVec 3) : encode (valuesForm ty) = .command ⟨encodeV 0x28#8 ty 0#16, []⟩ := by
  obtain ⟨n, below⟩ := ty
  interval_cases n <;> rfl

/-- The form of VALUE that a TYPE code selects is encoded with that code (R95, R102). -/
theorem encode_valueForm (ty : BitVec 3) (index : Half) :
    encode (valueForm ty index) = .command ⟨encodeV 0x29#8 ty index, []⟩ := by
  obtain ⟨n, below⟩ := ty
  interval_cases n <;> rfl

end Sys2Proof
end

section
/-! The decoder: what it makes of each opcode (R102, R103), that it undoes the encoder, and that the encoder undoes it. -/

namespace Sys2Proof

/-! ### The rows of the opcode map, by format -/

/-- The commands of format N with their opcodes (R98, R102). -/
def rowsN : List (Byte × Instr) :=
  [(0x01#8, .reset), (0x10#8, .connect), (0x11#8, .disconnect), (0x12#8, .send), (0x13#8, .recv), (0x21#8, .decode)]

/-- The two READs with their opcodes (R99, R102). -/
def rowsRead : List (Byte × (BuildOperands → Instr)) := [(0x30#8, .readc), (0x31#8, .readh)]

/-- Every opcode of the table (R102). -/
def assignedOpcodes : List Nat := [0x01, 0x08, 0x10, 0x11, 0x12, 0x13, 0x20, 0x21, 0x28, 0x29, 0x30, 0x31]

theorem decodeCommand_rowN {c : Command} {op : Byte} {i : Instr} (row : (op, i) ∈ rowsN) (opcode : cwOp c.cw = op) :
    decodeCommand c = ifReserved (reservedN c.cw) i := by
  simp only [rowsN, List.mem_cons, Prod.mk.injEq, List.not_mem_nil, or_false] at row
  rcases row with ⟨rfl, rfl⟩ | ⟨rfl, rfl⟩ | ⟨rfl, rfl⟩ | ⟨rfl, rfl⟩ | ⟨rfl, rfl⟩ | ⟨rfl, rfl⟩ <;>
    simp only [decodeCommand, opcode, BitVec.toNat_ofNat, Nat.reducePow, Nat.reduceMod]

theorem decodeCommand_build {c : Command} (opcode : cwOp c.cw = 0x08#8) :
    decodeCommand c = ifReserved (reservedB c.cw) (.build (cwFc c.cw) (cwBuildOperands c.cw)) := by
  simp only [decodeCommand, opcode, BitVec.toNat_ofNat, Nat.reducePow, Nat.reduceMod]

theorem decodeCommand_rowRead {c : Command} {op : Byte} {read : BuildOperands → Instr} (row : (op, read) ∈ rowsRead)
    (opcode : cwOp c.cw = op) : decodeCommand c = ifReserved (reservedRead c.cw) (read (cwBuildOperands c.cw)) := by
  simp only [rowsRead, List.mem_cons, Prod.mk.injEq, List.not_mem_nil, or_false] at row
  rcases row with ⟨rfl, rfl⟩ | ⟨rfl, rfl⟩ <;>
    simp only [decodeCommand, opcode, BitVec.toNat_ofNat, Nat.reducePow, Nat.reduceMod]

theorem decodeCommand_loadf {c : Command} (opcode : cwOp c.cw = 0x20#8) :
    decodeCommand c = if reservedL c.cw then decodeLoadf (cwNbytes c.cw) c.payload else .error .reservedBit := by
  simp only [decodeCommand, opcode, BitVec.toNat_ofNat, Nat.reducePow, Nat.reduceMod]

theorem decodeCommand_values {c : Command} (opcode : cwOp c.cw = 0x28#8) :
    decodeCommand c = ifReserved (reservedValues c.cw) (valuesForm (cwType c.cw)) := by
  simp only [decodeCommand, opcode, BitVec.toNat_ofNat, Nat.reducePow, Nat.reduceMod]

theorem decodeCommand_value {c : Command} (opcode : cwOp c.cw = 0x29#8) :
    decodeCommand c = ifReserved (reservedV c.cw) (valueForm (cwType c.cw) (cwIndex c.cw)) := by
  simp only [decodeCommand, opcode, BitVec.toNat_ofNat, Nat.reducePow, Nat.reduceMod]

theorem decodeCommand_unassigned {c : Command} (unassigned : (cwOp c.cw).toNat ∉ assignedOpcodes) :
    decodeCommand c = .error .unassignedOpcode := by
  simp only [assignedOpcodes, List.mem_cons, List.not_mem_nil, or_false, not_or] at unassigned
  unfold decodeCommand
  split
  case h_13 => rfl
  all_goals simp_all

theorem ifReserved_eq_ok_iff (ok : Bool) (i j : Instr) : ifReserved ok i = .ok j ↔ ok = true ∧ j = i := by
  cases ok <;> simp [ifReserved, eq_comm]

/-! ### Decoding what the encoder writes -/

@[simp] theorem cwOp_encodeN (op : Byte) : cwOp (encodeN op) = op := encodeN_op op

@[simp] theorem reservedN_encodeN (op : Byte) : reservedN (encodeN op) = true := by simp [reservedN]

@[simp] theorem cwOp_encodeB (op fc : Byte) (o : BuildOperands) : cwOp (encodeB op fc o) = op := encodeB_op op fc o

@[simp] theorem cwFc_encodeB (op fc : Byte) (o : BuildOperands) : cwFc (encodeB op fc o) = fc := encodeB_fc op fc o

@[simp] theorem cwBuildOperands_encodeB (op fc : Byte) (o : BuildOperands) : cwBuildOperands (encodeB op fc o) = o := by
  simp [cwBuildOperands]

@[simp] theorem reservedB_encodeB (op fc : Byte) (o : BuildOperands) : reservedB (encodeB op fc o) = true := by
  simp [reservedB]

@[simp] theorem reservedRead_encodeB (op : Byte) (o : BuildOperands) : reservedRead (encodeB op 0#8 o) = true := by
  simp [reservedRead]

@[simp] theorem cwOp_encodeV (op : Byte) (ty : BitVec 3) (index : Half) : cwOp (encodeV op ty index) = op :=
  encodeV_op op ty index

@[simp] theorem cwType_encodeV (op : Byte) (ty : BitVec 3) (index : Half) : cwType (encodeV op ty index) = ty :=
  encodeV_type op ty index

@[simp] theorem cwIndex_encodeV (op : Byte) (ty : BitVec 3) (index : Half) : cwIndex (encodeV op ty index) = index :=
  encodeV_index op ty index

@[simp] theorem reservedV_encodeV (op : Byte) (ty : BitVec 3) (index : Half) : reservedV (encodeV op ty index) = true := by
  simp [reservedV]

@[simp] theorem reservedValues_encodeV (op : Byte) (ty : BitVec 3) : reservedValues (encodeV op ty 0#16) = true := by
  simp [reservedValues]

@[simp] theorem cwOp_encodeL (op : Byte) (nbytes : BitVec 24) : cwOp (encodeL op nbytes) = op := encodeL_op op nbytes

@[simp] theorem cwNbytes_encodeL (op : Byte) (nbytes : BitVec 24) : cwNbytes (encodeL op nbytes) = nbytes :=
  encodeL_nbytes op nbytes

@[simp] theorem reservedL_encodeL (op : Byte) (nbytes : BitVec 24) : reservedL (encodeL op nbytes) = true := by
  simp [reservedL]

theorem decodeCommand_encodeN {op : Byte} {i : Instr} (row : (op, i) ∈ rowsN) (payload : List Byte) :
    decodeCommand ⟨encodeN op, payload⟩ = .ok i := by
  rw [decodeCommand_rowN (c := ⟨encodeN op, payload⟩) row (cwOp_encodeN op), reservedN_encodeN]
  rfl

theorem decodeCommand_encodeB_build (fc : Byte) (o : BuildOperands) (payload : List Byte) :
    decodeCommand ⟨encodeB 0x08#8 fc o, payload⟩ = .ok (.build fc o) := by
  rw [decodeCommand_build (c := ⟨encodeB 0x08#8 fc o, payload⟩) (cwOp_encodeB _ fc o), reservedB_encodeB,
    cwFc_encodeB, cwBuildOperands_encodeB]
  rfl

theorem decodeCommand_encodeB_read {op : Byte} {read : BuildOperands → Instr} (row : (op, read) ∈ rowsRead)
    (o : BuildOperands) (payload : List Byte) : decodeCommand ⟨encodeB op 0#8 o, payload⟩ = .ok (read o) := by
  rw [decodeCommand_rowRead (c := ⟨encodeB op 0#8 o, payload⟩) row (cwOp_encodeB op 0#8 o), reservedRead_encodeB,
    cwBuildOperands_encodeB]
  rfl

theorem decodeCommand_encodeV_values (ty : BitVec 3) (payload : List Byte) :
    decodeCommand ⟨encodeV 0x28#8 ty 0#16, payload⟩ = .ok (valuesForm ty) := by
  rw [decodeCommand_values (c := ⟨encodeV 0x28#8 ty 0#16, payload⟩) (cwOp_encodeV _ ty 0#16), reservedValues_encodeV,
    cwType_encodeV]
  rfl

theorem decodeCommand_encodeV_value (ty : BitVec 3) (index : Half) (payload : List Byte) :
    decodeCommand ⟨encodeV 0x29#8 ty index, payload⟩ = .ok (valueForm ty index) := by
  rw [decodeCommand_value (c := ⟨encodeV 0x29#8 ty index, payload⟩) (cwOp_encodeV _ ty index), reservedV_encodeV,
    cwType_encodeV, cwIndex_encodeV]
  rfl

/-- A LOADF that carries the bytes it takes is decoded with all of them (R101, R104). -/
theorem decodeCommand_encodeL {nbytes : BitVec 24} {payload : List Byte} (wf : (Instr.loadf nbytes payload).wf = true) :
    decodeCommand ⟨encodeL 0x20#8 nbytes, payload⟩ = .ok (.loadf nbytes payload) := by
  have taken : payload.length = loadfTakes nbytes := by simpa [Instr.wf] using wf
  rw [decodeCommand_loadf (c := ⟨encodeL 0x20#8 nbytes, payload⟩) (cwOp_encodeL _ nbytes), reservedL_encodeL,
    cwNbytes_encodeL, if_pos rfl, decodeLoadf,
    if_neg (Nat.not_lt.2 taken.ge), ← taken, List.take_length]

theorem decodeRequest_encodeRequest_readCoils (tid : Half) (unit : Byte) (addr qty : Half) :
    decodeRequest (encodeRequest 0x01#8 tid unit addr qty) = .ok (.frameReqReadCoils tid unit addr qty) := by
  simp [decodeRequest, -BitVec.extractLsb'_toNat]

theorem decodeRequest_encodeRequest_readHoldingRegisters (tid : Half) (unit : Byte) (addr qty : Half) :
    decodeRequest (encodeRequest 0x03#8 tid unit addr qty) = .ok (.frameReqReadHoldingRegisters tid unit addr qty) := by
  simp [decodeRequest, -BitVec.extractLsb'_toNat]

theorem decodeResponse_encodeResponse (tid pid len : Half) (unit fc bc : Byte) :
    decodeResponse (encodeResponse tid pid len unit fc bc) = .frameRsp tid pid len unit fc bc := by
  simp [decodeResponse]

theorem decodeAnswer_encodeAnswer_byte (b : Byte) : decodeAnswer (encodeAnswer 1#2 b) = .ok (.answerByte b) := by
  simp [decodeAnswer, -BitVec.extractLsb'_toNat]

/-- Settles O50: each word has the opcode of its row, zeros in its reserved bits, and the operands in their fields. -/
theorem decodeOfEncodeIsTheInstruction : Obligations.DecodeOfEncodeIsTheInstruction := by
  intro i wf
  cases i with
  | reset | connect | disconnect | send | recv | decode =>
    dsimp only [encode, decode]
    exact decodeCommand_encodeN (by simp [rowsN]) []
  | build fc o => exact decodeCommand_encodeB_build fc o []
  | loadf nbytes payload => exact decodeCommand_encodeL wf
  | valuesInt16 => exact decodeCommand_encodeV_values 0 []
  | valuesUint16 => exact decodeCommand_encodeV_values 1 []
  | valuesInt32 => exact decodeCommand_encodeV_values 2 []
  | valuesUint32 => exact decodeCommand_encodeV_values 3 []
  | valuesFloat32 => exact decodeCommand_encodeV_values 4 []
  | valuesInt64 => exact decodeCommand_encodeV_values 5 []
  | valuesUint64 => exact decodeCommand_encodeV_values 6 []
  | valuesFloat64 => exact decodeCommand_encodeV_values 7 []
  | valueInt16 index => exact decodeCommand_encodeV_value 0 index []
  | valueUint16 index => exact decodeCommand_encodeV_value 1 index []
  | valueInt32 index => exact decodeCommand_encodeV_value 2 index []
  | valueUint32 index => exact decodeCommand_encodeV_value 3 index []
  | valueFloat32 index => exact decodeCommand_encodeV_value 4 index []
  | valueInt64 index => exact decodeCommand_encodeV_value 5 index []
  | valueUint64 index => exact decodeCommand_encodeV_value 6 index []
  | valueFloat64 index => exact decodeCommand_encodeV_value 7 index []
  | readc o =>
    refine decodeCommand_encodeB_read ?_ o []
    simp [rowsRead]
  | readh o =>
    refine decodeCommand_encodeB_read ?_ o []
    simp [rowsRead]
  | frameReqReadCoils tid unit addr qty => exact decodeRequest_encodeRequest_readCoils tid unit addr qty
  | frameReqReadHoldingRegisters tid unit addr qty =>
    exact decodeRequest_encodeRequest_readHoldingRegisters tid unit addr qty
  | frameRsp tid pid len unit fc bc => exact congrArg Except.ok (decodeResponse_encodeResponse tid pid len unit fc bc)
  | answerByte b => exact decodeAnswer_encodeAnswer_byte b
  | answerNone | answerClosed | answerFault => rfl

/-! ### Encoding what a word decodes to -/

/-- An instruction encodes to a command's word, with a payload that the command presents first. -/
def EncodesTo (i : Instr) (c : Command) : Prop := ∃ payload, payload <+: c.payload ∧ encode i = .command ⟨c.cw, payload⟩

/-- A word whose reserved bits are 0 is what the encoder writes for its instruction, if the encoder writes it from the fields. -/
theorem EncodesTo.of_ifReserved {ok : Bool} {i j : Instr} {c : Command} {cw : CommandWord} (h : ifReserved ok i = .ok j)
    (encoded : encode i = .command ⟨cw, []⟩) (fields : ok = true → cw = c.cw) : EncodesTo j c := by
  obtain ⟨reserved, rfl⟩ := (ifReserved_eq_ok_iff ok i j).1 h
  exact ⟨[], List.nil_prefix, by rw [encoded, fields reserved]⟩

theorem EncodesTo.of_decodeLoadf {c : Command} {i : Instr} (opcode : cwOp c.cw = 0x20#8) (reserved : reservedL c.cw = true)
    (h : decodeLoadf (cwNbytes c.cw) c.payload = .ok i) : EncodesTo i c := by
  unfold decodeLoadf at h
  split at h <;> cases h
  exact ⟨_, List.take_prefix _ c.payload, by rw [encode, ← opcode, encodeL_fields reserved]⟩

/-- A command word that is an instruction is the word of that instruction (R98 to R102). -/
theorem EncodesTo.of_decodeCommand {c : Command} {i : Instr} (h : decodeCommand c = .ok i) : EncodesTo i c := by
  have opcode (op : Byte) (number : (cwOp c.cw).toNat = op.toNat) : op = cwOp c.cw := (BitVec.eq_of_toNat_eq number).symm
  have formatN {op : Byte} (number : (cwOp c.cw).toNat = op.toNat) (reserved : reservedN c.cw = true) :
      encodeN op = c.cw := by
    rw [opcode op number, encodeN_fields reserved]
  have read {op : Byte} (number : (cwOp c.cw).toNat = op.toNat) (reserved : reservedRead c.cw = true) :
      encodeB op 0#8 (cwBuildOperands c.cw) = c.cw := by
    simp only [reservedRead, Bool.and_eq_true, beq_iff_eq] at reserved
    obtain ⟨format, function⟩ := reserved
    rw [opcode op number, ← function, encodeB_fields format]
  unfold decodeCommand at h
  split at h
  case h_1 number | h_3 number | h_4 number | h_5 number | h_6 number | h_8 number =>
    exact .of_ifReserved h rfl (formatN number)
  case h_2 number =>
    refine .of_ifReserved h rfl fun reserved => ?_
    rw [opcode 0x08#8 number, encodeB_fields reserved]
  case h_7 number =>
    split at h
    · next reserved => exact .of_decodeLoadf (opcode 0x20#8 number).symm reserved h
    · cases h
  case h_9 number =>
    refine .of_ifReserved h (encode_valuesForm (cwType c.cw)) fun reserved => ?_
    simp only [reservedValues, Bool.and_eq_true, beq_iff_eq] at reserved
    obtain ⟨format, index⟩ := reserved
    rw [opcode 0x28#8 number, ← index, encodeV_fields format]
  case h_10 number =>
    refine .of_ifReserved h (encode_valueForm (cwType c.cw) (cwIndex c.cw)) fun reserved => ?_
    rw [opcode 0x29#8 number, encodeV_fields reserved]
  case h_11 number | h_12 number => exact .of_ifReserved h rfl (read number)
  case h_13 => cases h

/-- Ninety-six bits on the TX stream that are an instruction are the frame of that instruction (R92). -/
theorem encode_of_decodeRequest {w : BitVec 96} {i : Instr} (h : decodeRequest w = .ok i) : encode i = .request w := by
  unfold decodeRequest at h
  split at h
  case isFalse => cases h
  case isTrue frame =>
    obtain ⟨protocol, length⟩ := frame
    have fields := encodeRequest_fields protocol length
    have function (fc : Byte) (number : (w.extractLsb' 32 8).toNat = fc.toNat) : fc = w.extractLsb' 32 8 :=
      (BitVec.eq_of_toNat_eq number).symm
    split at h <;> cases h
    next number => rw [encode, function 0x01#8 number, fields]
    next number => rw [encode, function 0x03#8 number, fields]

/-- Nine bytes on the RX stream are the start of a response that they decode to (R93). -/
theorem encode_decodeResponse (w : BitVec 72) : encode (decodeResponse w) = .response w :=
  congrArg PortWord.response (encodeResponse_fields w)

/-- The kinds of an answer word are 0 to 3 (R107). -/
theorem kind_three : ∀ {kind : BitVec 2}, kind.toNat ≠ 0 → kind.toNat ≠ 1 → kind.toNat ≠ 2 → kind = 3#2 := by decide

/-- An answer word that is an instruction is the word of that instruction (R107). -/
theorem encode_of_decodeAnswer {w : AnswerWord} {i : Instr} (h : decodeAnswer w = .ok i) : encode i = .answer w := by
  have fields := encodeAnswer_fields w
  have kind (k : BitVec 2) (number : (w.extractLsb' 8 2).toNat = k.toNat) : k = w.extractLsb' 8 2 :=
    (BitVec.eq_of_toNat_eq number).symm
  simp only [decodeAnswer] at h
  split at h
  case h_1 number =>
    split at h <;> cases h
    next empty => rw [encode, kind 0#2 number, ← empty, fields]
  case h_2 number =>
    cases h
    rw [encode, kind 1#2 number, fields]
  case h_3 number =>
    split at h <;> cases h
    next empty => rw [encode, kind 2#2 number, ← empty, fields]
  case h_4 no0 no1 no2 =>
    split at h <;> cases h
    next empty => rw [encode, ← kind_three no0 no1 no2, ← empty, fields]

/-- Settles O51: no field is lost on either side of the decoder, and the reserved bits are the zeros of the encoder. -/
theorem encodeOfDecodeIsTheWord : Obligations.EncodeOfDecodeIsTheWord := by
  intro p i h
  refine ⟨Machine.decode_wf h, ?_⟩
  cases p with
  | command c =>
    obtain ⟨payload, taken, encoded⟩ := EncodesTo.of_decodeCommand h
    rw [encoded]
    exact ⟨rfl, taken⟩
  | request w => rw [encode_of_decodeRequest h]
  | response w => cases h; rw [encode_decodeResponse]
  | answer w => rw [encode_of_decodeAnswer h]

/-- Settles O52, word by word. -/
theorem writtenOutWordsDecode : Obligations.WrittenOutWordsDecode :=
  ⟨rfl, rfl, rfl, rfl, rfl, rfl, rfl, rfl, rfl⟩

end Sys2Proof
end

section
/-! The ports: a word that is taken runs as the instruction it decodes to, or completes as illegal (R97, R103, R160, R253). -/

namespace Sys2Proof.Machine

/-! ### The step on a word -/

theorem step_cons {s : State} {e : Event} {es : List Event} (moves : s.inbox = e :: es) :
    step s = handleEvent e { s with inbox := es } := by
  unfold step stepOnce
  rw [moves]

/-- While nothing is pending the command port takes the first word that waits (R160). -/
theorem hostTurn_free {s : State} {c : Command} {cs : List Command} (free : s.pend = .none) (waits : s.waiting = c :: cs) :
    hostTurn s = runCommand c { s with waiting := cs } := by
  unfold hostTurn
  rw [free, waits, takeWaiting_none_cons]

theorem runCommand_ok {c : Command} {i : Instr} (ok : decodeCommand c = .ok i) (s : State) : runCommand c s = exec i s := by
  unfold runCommand
  rw [ok]

theorem step_host {s : State} {c : Command} {cs : List Command} {es : List Event} (free : s.pend = .none)
    (turn : s.inbox = .host :: es) (waits : s.waiting = c :: cs) :
    step s = runCommand c { s with inbox := es, waiting := cs } := by
  rw [step_cons turn]
  exact hostTurn_free (s := { s with inbox := es }) free waits

/-- A command word that is presented alone while nothing is pending is taken at once. -/
theorem step_command {s : State} {c : Command} {es : List Event} (free : s.pend = .none) (alone : s.waiting = [])
    (presented : s.inbox = .arrive (.command c) :: es) : step s = runCommand c { s with inbox := es } := by
  have joined : s.waiting ++ [c] = [c] := by rw [alone]; rfl
  have taken := hostTurn_free (s := { s with inbox := es, waiting := s.waiting ++ [c] }) free joined
  rw [step_cons presented]
  refine taken.trans ?_
  rw [← alone]

/-- A word that is no command word is executed as it arrives. -/
theorem wordArrives_ok {p : PortWord} {i : Instr} (other : ∀ c, p ≠ .command c) (ok : decode p = .ok i) (s : State) :
    wordArrives p s = exec i s := by
  cases p with
  | command c => exact absurd rfl (other c)
  | request | response | answer => simp only [wordArrives, ok]

theorem step_other {s : State} {p : PortWord} {i : Instr} {es : List Event} (other : ∀ c, p ≠ .command c)
    (ok : decode p = .ok i) (arrives : s.inbox = .arrive p :: es) : step s = exec i { s with inbox := es } := by
  rw [step_cons arrives]
  exact wordArrives_ok other ok _

/-- Settles O47: the word that the step takes is the one that was decoded. -/
theorem stepRunsTheDecodedInstruction : Obligations.StepRunsTheDecodedInstruction := by
  refine ⟨fun c i s es ok free => ⟨fun presented alone => ?_, fun cs turn waits => ?_⟩,
    fun p i s es other ok arrives => ?_⟩
  · rw [step_command free alone presented, runCommand_ok ok]
  · rw [step_host free turn waits, runCommand_ok ok]
  · exact step_other other ok arrives

/-! ### Words of the opcode table -/

/-- A word that is presented while nothing is pending is the next thing that runs (log entry 1). -/
theorem step_presentWord {s : State} {p : PortWord} {i : Instr} (free : s.pend = .none) (ok : decode p = .ok i) :
    step (presentWord p s) = exec i s := by
  cases p with
  | command c =>
    exact (step_host (s := presentWord (.command c) s) free rfl rfl).trans (runCommand_ok ok s)
  | request w => exact step_other (s := presentWord (.request w) s) (by simp) ok rfl
  | response w => exact step_other (s := presentWord (.response w) s) (by simp) ok rfl
  | answer w => exact step_other (s := presentWord (.answer w) s) (by simp) ok rfl

/-- A table word that the decoder reads is a word of one of the ports, whose instruction it is. -/
theorem decodeTableWord_eq_some {nbits w : Nat} {i : Instr} (h : decodeTableWord nbits w = some i) :
    ∃ p, portWordOfTable nbits w = some p ∧ decode p = .ok i := by
  unfold decodeTableWord at h
  split at h
  · cases h
  · next p hp =>
    refine ⟨p, hp, ?_⟩
    cases ok : decode p <;> rw [ok] at h <;> cases h
    rfl

/-- Settles O49: the decoder and the placing read the same port word from the table word. -/
theorem placedTableWordRunsItsInstruction : Obligations.PlacedTableWordRunsItsInstruction := by
  intro nbits w i s free h
  obtain ⟨p, word, ok⟩ := decodeTableWord_eq_some h
  have placed : s.withFetchWord nbits w = presentWord p s := by simp only [State.withFetchWord, word]
  rw [placed, step_presentWord free ok]

/-! ### Illegal words -/

theorem ifReserved_false {ok : Bool} (set : ok = false) (i : Instr) : ifReserved ok i = .error .reservedBit := by
  rw [set]
  rfl

theorem cwOp_toNat (cw : CommandWord) : (cwOp cw).toNat = cw.toNat / 2 ^ 88 := by
  have width := cw.isLt
  rw [cwOp, BitVec.extractLsb'_toNat, Nat.shiftRight_eq_div_pow, Nat.mod_eq_of_lt (by omega)]

/-- Whether a bit that the format of an opcode reserves is 1 (R98 to R101). -/
def reservedBitSet (op : Nat) (cw : CommandWord) : Prop :=
  (op ∈ [0x01, 0x10, 0x11, 0x12, 0x13, 0x21] ∧ cw.extractLsb' 0 88 ≠ 0#88) ∨
  (op ∈ [0x08, 0x30, 0x31] ∧ (cw.extractLsb' 82 6 ≠ 0#6 ∨ cw.extractLsb' 0 8 ≠ 0#8)) ∨
  (op ∈ [0x30, 0x31] ∧ cw.extractLsb' 72 8 ≠ 0#8) ∨
  (op ∈ [0x28, 0x29] ∧ (cw.extractLsb' 83 5 ≠ 0#5 ∨ cw.extractLsb' 0 64 ≠ 0#64)) ∨
  (op = 0x28 ∧ cw.extractLsb' 64 16 ≠ 0#16) ∨
  (op = 0x20 ∧ cw.extractLsb' 24 64 ≠ 0#64)

/-- A reserved bit that is 1 is refused, in each format by the check of that format (R103). -/
theorem decodeCommand_reservedBit {c : Command} (set : reservedBitSet (cwOp c.cw).toNat c.cw) :
    decodeCommand c = .error .reservedBit := by
  unfold decodeCommand
  split
  case h_1 number | h_3 number | h_4 number | h_5 number | h_6 number | h_8 number =>
    exact ifReserved_false (by simpa [reservedBitSet, number, reservedN] using set) _
  case h_2 number => exact ifReserved_false (by simpa [reservedBitSet, number, reservedB, imp_iff_not_or] using set) _
  case h_7 number => exact if_neg (by simpa [reservedBitSet, number, reservedL] using set)
  case h_9 number =>
    exact ifReserved_false (by simpa [reservedBitSet, number, reservedValues, reservedV, cwIndex, imp_iff_not_or] using set) _
  case h_10 number => exact ifReserved_false (by simpa [reservedBitSet, number, reservedV, imp_iff_not_or] using set) _
  case h_11 number | h_12 number =>
    exact ifReserved_false (by simpa [reservedBitSet, number, reservedRead, reservedB, cwFc, imp_iff_not_or] using set) _
  case h_13 => simp_all [reservedBitSet]

theorem runCommand_unassigned {c : Command} (refused : decodeCommand c = .error .unassignedOpcode) (s : State) :
    runCommand c s = .next (complete .illegalCommand 0 0 s) := by
  unfold runCommand
  rw [refused]
  rfl

theorem runCommand_reservedBit {c : Command} (refused : decodeCommand c = .error .reservedBit) (s : State) :
    runCommand c s = .next (complete .illegalCommand 1 0 s) := by
  unfold runCommand
  rw [refused]
  rfl

/-- Settles O46: the port takes the word, the decoder refuses it, and the refusal is the completion. -/
theorem illegalWordsCompleteWithIllegalCommand : Obligations.IllegalWordsCompleteWithIllegalCommand := by
  intro c op s es free alone presented opcode
  rw [step_command free alone presented, opcode, ← cwOp_toNat]
  exact ⟨fun unassigned => runCommand_unassigned (decodeCommand_unassigned unassigned) _,
    fun set => runCommand_reservedBit (decodeCommand_reservedBit set) _⟩

end Sys2Proof.Machine
end

section
/-! The TX stream: the wire rows of R92, what SEND and READ push, and that no command pushes anything else. -/

namespace Sys2Proof.Machine

/-! ### The TX stream as a sequence of requests (R60, R75) -/

theorem txStream_push {s t : State} {bytes : List Byte} (pushed : t.transport = s.transport ++ [.push bytes]) :
    txStream t = txStream s ++ bytes := by
  simp [txStream, pushed]

theorem txStream_connect {s t : State} (asked : t.transport = s.transport ++ [.connect]) : txStream t = txStream s := by
  simp [txStream, asked]

theorem txStream_close {s t : State} (closed : t.transport = s.transport ++ [.close]) : txStream t = txStream s := by
  simp [txStream, closed]

theorem txStream_kept {s t : State} (kept : t.transport = s.transport) : txStream t = txStream s := by
  simp [txStream, kept]

/-! ### The wire rows and SEND -/

theorem transmitFrame_linked {s : State} (linked : s.link = true) (bytes : List Byte) :
    transmitFrame bytes s = txPush bytes s := if_pos linked

/-- Settles O41: the bytes of the pattern are the fields of the row, cut in bytes. -/
theorem requestFramePushesItsTwelveBytes : Obligations.RequestFramePushesItsTwelveBytes := by
  intro i fc tid unit addr qty s row
  simp only [List.mem_cons, Prod.mk.injEq, List.not_mem_nil, or_false] at row
  rcases row with ⟨rfl, rfl⟩ | ⟨rfl, rfl⟩
  · rfl
  · rfl

theorem supportedFc_iff (fc : Byte) : supportedFc fc = true ↔ fc = 0x01#8 ∨ fc = 0x03#8 := by
  simp [supportedFc]

/-- SEND with a Request on a Connected session pushes TXBUF (R142). -/
theorem exec_send_linked {s : State} (free : s.pend = .none) (valid : s.reqValid = true) (linked : s.link = true) :
    exec .send s = .next (complete .ok 0 (BitVec.ofNat 32 Config.txLen) (transmitRequest s)) := by
  refine (whenFree_free s (fun s => .next (sendRequest s)) free).trans ?_
  simp only [sendRequest, valid, linked, Bool.true_eq_false, if_false]

/-- The wire row that the Request registers name pushes TXBUF (R23, R92). -/
theorem exec_requestRow {s : State} {i : Instr} (linked : s.link = true) (supported : supportedFc s.reqFc = true)
    (row : i = if s.reqFc = 0x01#8 then .frameReqReadCoils s.reqTid s.reqUnit s.reqAddr s.reqQty
      else .frameReqReadHoldingRegisters s.reqTid s.reqUnit s.reqAddr s.reqQty) :
    exec i s = .next (txPush (txbuf s) s) := by
  rw [← transmitFrame_linked linked, txbuf, row]
  rcases (supportedFc_iff s.reqFc).1 supported with coils | registers
  · rw [if_pos coils, coils]
    rfl
  · rw [if_neg (by rw [registers]; decide), registers]
    rfl

/-- Settles O42: SEND and the wire row push the same bytes, those of TXBUF. -/
theorem sendTransmitsTheWireRowOfItsRequest : Obligations.SendTransmitsTheWireRowOfItsRequest := by
  intro i s t u free valid linked row supported sent shown
  rw [exec_send_linked free valid linked] at sent
  rw [exec_requestRow linked supported row] at shown
  cases sent
  cases shown
  exact ⟨rfl, txStream_push rfl⟩

/-! ### READC and READH as BUILD, SEND and RECV -/

theorem exec_build_valid {s : State} {fc : Byte} {o : BuildOperands} (free : s.pend = .none)
    (valid : buildFailure s.enforceMaxima fc o = none) :
    exec (.build fc o) s = .next (complete .ok 0 0 (setRequest fc o s)) := by
  refine (whenFree_free s (fun s => .next (buildRequest fc o s)) free).trans ?_
  simp only [buildRequest, valid]

theorem startRead_linked {s : State} {fc : Byte} {o : BuildOperands} (linked : s.link = true)
    (valid : buildFailure s.enforceMaxima fc o = none) :
    startRead fc o s = armReceive .read (transmitRequest (setRequest fc o s)) := by
  simp only [startRead, valid, linked, Bool.true_eq_false, if_false]

theorem exec_read_free {s : State} {i : Instr} {fc : Byte} {o : BuildOperands} (free : s.pend = .none)
    (row : (i, fc) ∈ [(Instr.readc o, 0x01#8), (.readh o, 0x03#8)]) : exec i s = .next (startRead fc o s) := by
  simp only [List.mem_cons, Prod.mk.injEq, List.not_mem_nil, or_false] at row
  rcases row with ⟨rfl, rfl⟩ | ⟨rfl, rfl⟩
  · exact whenFree_free s (fun s => .next (startRead 0x01#8 o s)) free
  · exact whenFree_free s (fun s => .next (startRead 0x03#8 o s)) free

/-- A success completion writes ERR, ends the command and delivers its record; ERRLOG stays (R262). -/
theorem complete_ok_eq (sub : BitVec 4) (res : Word32) (s : State) :
    complete .ok sub res s =
      { s with err := errWord .ok sub, pend := .none, results := s.results ++ [⟨.ok, sub, res⟩] } := by
  have sticky : s.errLog ||| stickyBit .ok = s.errLog := complete_ok_errLog sub res s
  simp only [complete, sticky]

/-- Settles O39: the three commands write what the stages of READ write, and their completions touch ERR, PEND and the records
only. -/
theorem readEqualsBuildSendRecv : Obligations.ReadEqualsBuildSendRecv := by
  intro i fc o s row free linked valid
  refine ⟨_, _, _, _, exec_read_free free row, exec_build_valid free valid, exec_send_linked rfl rfl linked,
    exec_recv_linked rfl linked, ?_⟩
  rw [startRead_linked linked valid, complete_ok_eq, complete_ok_eq]
  rfl

/-! ### What a command adds to the TX stream -/

/-- From s to t the TX stream has grown by nothing, or by one request frame of a supported function (R92). -/
def AddsRequestFrame (s t : State) : Prop :=
  txStream t = txStream s ∨
    ∃ (tid : Half) (unit fc : Byte) (addr qty : Half), supportedFc fc = true ∧
      txStream t = txStream s ++ requestFrame tid unit fc addr qty

theorem AddsRequestFrame.nothing {s t : State} (kept : t.transport = s.transport) : AddsRequestFrame s t :=
  .inl (txStream_kept kept)

theorem AddsRequestFrame.txbuf {s t u : State} (supported : supportedFc u.reqFc = true)
    (pushed : t.transport = s.transport ++ [.push (txbuf u)]) : AddsRequestFrame s t :=
  .inr ⟨u.reqTid, u.reqUnit, u.reqFc, u.reqAddr, u.reqQty, supported, txStream_push pushed⟩

/-- A held command adds nothing, and a taken one what its body adds (R160). -/
theorem AddsRequestFrame.of_whenFree {s t : State} {body : State → Result} (h : whenFree s body = .next t)
    (taken : body s = .next t → AddsRequestFrame s t) : AddsRequestFrame s t := by
  rcases whenFree_next s t body h with ⟨-, run⟩ | ⟨-, rfl⟩
  · exact taken run
  · exact .nothing rfl

theorem AddsRequestFrame.of_whenFree_next {s t : State} {f : State → State}
    (h : whenFree s (fun s => .next (f s)) = .next t) (taken : AddsRequestFrame s (f s)) : AddsRequestFrame s t :=
  of_whenFree h fun run => by cases run; exact taken

theorem AddsRequestFrame.of_execReset (s : State) : AddsRequestFrame s (complete .ok 0 0 (resetBlock s)) := by
  cases linked : s.link with
  | true => exact .inl (txStream_close (by simp [resetBlock, linked]))
  | false => exact .nothing (by simp [resetBlock, linked])

theorem AddsRequestFrame.of_buildRequest (fc : Byte) (o : BuildOperands) (s : State) :
    AddsRequestFrame s (buildRequest fc o s) := by
  unfold buildRequest
  split
  · exact .nothing rfl
  · exact .nothing rfl

theorem AddsRequestFrame.of_connectSession (s : State) : AddsRequestFrame s (connectSession s) := by
  unfold connectSession
  split
  · exact .nothing rfl
  · split
    · exact .inl (txStream_connect (connectReq_transport s))
    · exact .inl (txStream_connect (connectReq_transport s))

theorem abandonReceive_transport (s : State) : (abandonReceive s).transport = s.transport := by
  rcases abandonReceive_cases s with he | he <;> rw [he]
  rfl

theorem AddsRequestFrame.of_execDisconnect (s : State) :
    AddsRequestFrame s (complete .ok 0 0 { closeSession (abandonReceive s) with inFlight := false }) := by
  have before := abandonReceive_transport s
  cases linked : (abandonReceive s).link with
  | true => exact .inl (txStream_close (by simp [closeSession, linked, before]))
  | false => exact .nothing (by simp [closeSession, linked, before])

/-- SEND pushes the frame of the Request, where there is one (R142). -/
theorem AddsRequestFrame.of_sendRequest {s : State} (request : s.reqValid = true → supportedFc s.reqFc = true) :
    AddsRequestFrame s (sendRequest s) := by
  unfold sendRequest
  split
  · exact .nothing rfl
  · next valid =>
    split
    · exact .nothing rfl
    · exact .txbuf (u := s) (request (by simpa using valid)) rfl

theorem AddsRequestFrame.of_startReceive (s : State) : AddsRequestFrame s (startReceive s) := by
  unfold startReceive
  split
  · exact .nothing rfl
  · exact .nothing rfl

/-- READC and READH push the frame that BUILD's checks have let through (R222). -/
theorem AddsRequestFrame.of_startRead (fc : Byte) (o : BuildOperands) (s : State) : AddsRequestFrame s (startRead fc o s) := by
  unfold startRead
  split
  · exact .nothing rfl
  · next valid =>
    obtain ⟨-, -, supported, -⟩ := buildFailure_none s.enforceMaxima fc o valid
    split
    · exact .nothing rfl
    · exact .txbuf (u := setRequest fc o s) supported rfl

theorem AddsRequestFrame.of_loadFrame {n : BitVec 24} {payload : List Byte} {s t : State}
    (h : loadFrame n payload s = .next t) : AddsRequestFrame s t := by
  rcases loadFrame_next n payload s t h with ⟨-, rfl⟩ | ⟨-, -, rfl⟩
  · exact .nothing rfl
  · exact .nothing rfl

theorem AddsRequestFrame.of_decodeResponseFrame {s t : State} (h : decodeResponseFrame s = .next t) :
    AddsRequestFrame s t := by
  rcases decodeResponseFrame_next s t h with ⟨-, rfl⟩ | ⟨-, f, -, rfl⟩
  · exact .nothing rfl
  · rcases applyFrame_cases f s with ⟨k, sub, -, he⟩ | ⟨r, -, he⟩
    · exact .nothing (by rw [he]; rfl)
    · exact .nothing (by rw [he]; rfl)

theorem AddsRequestFrame.of_deliverValues {ty : NumType} {s t : State} (h : deliverValues ty s = .next t) :
    AddsRequestFrame s t := by
  rcases deliverValues_next ty s t h with ⟨-, rfl⟩ | ⟨-, data, -, rfl⟩
  · exact .nothing rfl
  · exact .nothing rfl

theorem AddsRequestFrame.of_deliverValue {ty : NumType} {index : Half} {s t : State}
    (h : deliverValue ty index s = .next t) : AddsRequestFrame s t := by
  rcases deliverValue_next ty index s t h with ⟨-, rfl⟩ | ⟨-, -, rfl⟩ | ⟨-, -, chunk, -, rfl⟩
  · exact .nothing rfl
  · exact .nothing rfl
  · exact .nothing rfl

/-- Every command adds nothing or one request frame to the TX stream, if what it may send is a Request (R44 item 4). -/
theorem exec_addsRequestFrame {i : Instr} {s t : State} (command : onCommandPort i = true)
    (request : s.reqValid = true → supportedFc s.reqFc = true) (h : exec i s = .next t) : AddsRequestFrame s t := by
  cases i with
  | reset => cases h; exact .of_execReset s
  | build fc o => exact .of_whenFree_next h (.of_buildRequest fc o s)
  | connect => exact .of_whenFree_next h (.of_connectSession s)
  | disconnect => cases h; exact .of_execDisconnect s
  | send => exact .of_whenFree_next h (.of_sendRequest request)
  | recv => exact .of_whenFree_next h (.of_startReceive s)
  | loadf n payload => exact .of_whenFree h .of_loadFrame
  | decode => exact .of_whenFree h .of_decodeResponseFrame
  | valuesInt16 | valuesUint16 | valuesInt32 | valuesUint32 | valuesFloat32 | valuesInt64 | valuesUint64 | valuesFloat64 =>
    exact .of_whenFree h .of_deliverValues
  | valueInt16 | valueUint16 | valueInt32 | valueUint32 | valueFloat32 | valueInt64 | valueUint64 | valueFloat64 =>
    exact .of_whenFree h .of_deliverValue
  | readc o | readh o => exact .of_whenFree_next h (.of_startRead _ o s)
  | frameReqReadCoils | frameReqReadHoldingRegisters | frameRsp | answerNone | answerByte | answerClosed | answerFault =>
    cases command

/-- Settles O60: the frame that a command adds is written out in its twelve bytes. -/
theorem commandsEmitOnlyRequestFrames : Obligations.CommandsEmitOnlyRequestFrames := by
  intro i s t command request h
  rcases exec_addsRequestFrame command request h with same | ⟨tid, unit, fc, addr, qty, supported, added⟩
  · exact .inl same
  · exact .inr ⟨tid, unit, fc, addr, qty, (supportedFc_iff fc).1 supported, added⟩

end Sys2Proof.Machine
end

section
/-! The deframer on the start of a response, from every phase (R93, R144 to R146): bytes that end no phase are stored, the seventh
reads the length field, and what comes behind a frame waits. -/

namespace Sys2Proof.Machine

/-! ### Bytes that arrive where none is taken -/

/-- Bytes that arrive after others arrive in the state that those have led to, if there is one. -/
theorem bytesArrive_append (xs ys : List Byte) (s : State) :
    bytesArrive (xs ++ ys) s = andThen (bytesArrive xs s) (bytesArrive ys) := by
  induction xs generalizing s with
  | nil => rfl
  | cons x xs ih =>
    change andThen (answerArrives (.byte x) s) (bytesArrive (xs ++ ys)) =
      andThen (andThen (answerArrives (.byte x) s) (bytesArrive xs)) (bytesArrive ys)
    cases answerArrives (.byte x) s with
    | next t => exact ih t
    | fault r => rfl
    | refused r => rfl

theorem bytesArrive_cons {b : Byte} {bs : List Byte} {s t : State} (first : answerArrives (.byte b) s = .next t) :
    bytesArrive (b :: bs) s = bytesArrive bs t :=
  congrArg (andThen · (bytesArrive bs)) first

/-- After a `Closed` no byte comes (R75; log entry 23). -/
theorem bytesArrive_closed {s : State} (closed : s.peerClosed = true) (quiet : s.rxState = .idle ∨ s.rxQueue = [])
    (bytes : List Byte) : bytesArrive bytes s = .next s := by
  induction bytes with
  | nil => rfl
  | cons b bs ih =>
    have unchanged : answerArrives (.byte b) s = .next s := by
      rw [answerArrives, queueAnswer_byte_closed closed]
      exact quiet.elim collaboratorTurn_idle collaboratorTurn_empty
    rw [bytesArrive_cons unchanged, ih]

theorem queueAnswer_byte_withStream {s : State} (still_open : s.peerClosed = false) (b : Byte) :
    queueAnswer (.byte b) s = withStream (s.rxQueue ++ [.byte b]) s.peerClosed s :=
  queueAnswer_byte_open still_open b

/-- While nothing is armed, bytes wait in their order (R42). -/
theorem bytesArrive_idle {s : State} (idle : s.rxState = .idle) (still_open : s.peerClosed = false) (bytes : List Byte) :
    bytesArrive bytes s = .next (withStream (s.rxQueue ++ bytes.map Answer.byte) s.peerClosed s) := by
  induction bytes generalizing s with
  | nil => rw [List.map_nil, List.append_nil]; rfl
  | cons b bs ih =>
    have joined : answerArrives (.byte b) s = .next (withStream (s.rxQueue ++ [.byte b]) s.peerClosed s) := by
      rw [answerArrives, queueAnswer_byte_withStream still_open]
      exact collaboratorTurn_idle (s := withStream (s.rxQueue ++ [.byte b]) s.peerClosed s) idle
    rw [bytesArrive_cons joined, ih (s := withStream (s.rxQueue ++ [Answer.byte b]) s.peerClosed s) idle still_open,
      List.map_cons, List.append_cons s.rxQueue (Answer.byte b) (bs.map Answer.byte)]
    rfl

/-! ### Bytes that end no phase -/

/-- The state with several more bytes in RXBUF. -/
def storedBytes (bytes : List Byte) (s : State) : State :=
  { s with
    rxBuf := s.rxBuf.writeBytes s.rxLen.toNat bytes
    rxLen := s.rxLen + BitVec.ofNat 17 bytes.length
    rxNeed := s.rxNeed - BitVec.ofNat 16 bytes.length }

theorem storedBytes_rxLen {s : State} {bytes : List Byte} (room : s.rxLen.toNat + bytes.length ≤ Config.rxCap) :
    (storedBytes bytes s).rxLen.toNat = s.rxLen.toNat + bytes.length := by
  unfold Config.rxCap at room
  unfold storedBytes
  bv_omega

theorem storedBytes_rxNeed {s : State} {bytes : List Byte} (enough : bytes.length ≤ s.rxNeed.toNat) :
    (storedBytes bytes s).rxNeed.toNat = s.rxNeed.toNat - bytes.length := by
  unfold storedBytes
  bv_omega

theorem storedBytes_singleton (b : Byte) (s : State) : storedBytes [b] s = storedByte b s := rfl

/-- Bytes that are stored after others are stored behind them. -/
theorem storedBytes_append {s : State} {xs : List Byte} (room : s.rxLen.toNat + xs.length ≤ Config.rxCap) (ys : List Byte) :
    storedBytes ys (storedBytes xs s) = storedBytes (xs ++ ys) s := by
  have buffer : (storedBytes xs s).rxBuf.writeBytes (storedBytes xs s).rxLen.toNat ys =
      s.rxBuf.writeBytes s.rxLen.toNat (xs ++ ys) := by
    rw [storedBytes_rxLen room, Memory.writeBytes_append]
    rfl
  have len : s.rxLen + BitVec.ofNat 17 xs.length + BitVec.ofNat 17 ys.length =
      s.rxLen + BitVec.ofNat 17 (xs ++ ys).length := by
    rw [List.length_append, BitVec.ofNat_add, BitVec.add_assoc]
  have need : s.rxNeed - BitVec.ofNat 16 xs.length - BitVec.ofNat 16 ys.length =
      s.rxNeed - BitVec.ofNat 16 (xs ++ ys).length := by
    rw [List.length_append, BitVec.ofNat_add, sub_sub]
  calc storedBytes ys (storedBytes xs s)
      = { s with
          rxBuf := (storedBytes xs s).rxBuf.writeBytes (storedBytes xs s).rxLen.toNat ys
          rxLen := s.rxLen + BitVec.ofNat 17 xs.length + BitVec.ofNat 17 ys.length
          rxNeed := s.rxNeed - BitVec.ofNat 16 xs.length - BitVec.ofNat 16 ys.length } := rfl
    _ = storedBytes (xs ++ ys) s := by rw [buffer, len, need]; rfl

/-- The phase and its count do not matter to what is stored. -/
theorem storedBytes_withPhase (bytes : List Byte) (phase : RxState) (need : Half) (s : State) :
    storedBytes bytes (withPhase phase need s) =
      withPhase phase (need - BitVec.ofNat 16 bytes.length) (storedBytes bytes s) := rfl

/-- A receive that takes what arrives: it is armed, nothing waits, and the stream is open. -/
structure Taking (s : State) : Prop where
  armed : s.rxState ≠ .idle
  queue : s.rxQueue = []
  still_open : s.peerClosed = false

theorem Taking.answerArrives {s : State} (taking : Taking s) (b : Byte) : answerArrives (.byte b) s = deframeByte b s :=
  answerArrives_byte_armed taking.armed taking.queue taking.still_open b

theorem Taking.storedBytes {s : State} (taking : Taking s) (bytes : List Byte) : Taking (storedBytes bytes s) :=
  { taking with }

/-- Fewer bytes than the phase needs are stored (R144). -/
theorem Taking.bytesArrive_more {s : State} (taking : Taking s) {bytes : List Byte} (more : bytes.length < s.rxNeed.toNat)
    (room : s.rxLen.toNat + bytes.length ≤ Config.rxCap) : bytesArrive bytes s = .next (Machine.storedBytes bytes s) := by
  induction bytes using List.reverseRecOn with
  | nil =>
    have nothing : Machine.storedBytes [] s = s := by simp [Machine.storedBytes]
    rw [nothing]
    rfl
  | append_singleton bytes b ih =>
    rw [List.length_append, List.length_singleton] at more room
    have need := storedBytes_rxNeed (s := s) (bytes := bytes) (by omega)
    have unfinished : (Machine.storedBytes bytes s).rxNeed - 1 ≠ 0 := by bv_omega
    rw [bytesArrive_concat (ih (by omega) (by omega)), (taking.storedBytes bytes).answerArrives,
      deframeByte_eq b (by rw [storedBytes_rxLen (by omega)]; omega), if_neg unfinished, ← storedBytes_singleton,
      storedBytes_append (by omega)]

/-- The byte that ends a phase is stored, and the phase ends (R145, R146). -/
theorem Taking.bytesArrive_last {s : State} (taking : Taking s) {bytes : List Byte} {b : Byte}
    (last : bytes.length + 1 = s.rxNeed.toNat) (room : s.rxLen.toNat + (bytes.length + 1) ≤ Config.rxCap) :
    bytesArrive (bytes ++ [b]) s =
      if s.rxState = .hdr then headerComplete (Machine.storedBytes (bytes ++ [b]) s)
      else frameComplete (Machine.storedBytes (bytes ++ [b]) s) := by
  have need := storedBytes_rxNeed (s := s) (bytes := bytes) (by omega)
  have finished : (Machine.storedBytes bytes s).rxNeed - 1 = 0 := by bv_omega
  rw [bytesArrive_concat (taking.bytesArrive_more (by omega) (by omega)), (taking.storedBytes bytes).answerArrives,
    deframeByte_eq b (by rw [storedBytes_rxLen (by omega)]; omega), if_pos finished, ← storedBytes_singleton,
    storedBytes_append (by omega)]
  rfl

/-! ### A receive that has just been armed (R143) -/

/-- A receive that has taken nothing yet. -/
structure Armed (s : State) : Prop extends Taking s where
  header : s.rxState = .hdr
  need : s.rxNeed = 7
  start : s.rxLen = 0

theorem Armed.offset {s : State} (armed : Armed s) : s.rxLen.toNat = 0 := by rw [armed.start]; rfl

/-- What such a receive stores is read back from offset 0. -/
theorem Armed.readBytes {s : State} (armed : Armed s) (bytes : List Byte) :
    (Machine.storedBytes bytes s).rxBuf.readBytes 0 bytes.length = some bytes := by
  simp only [Machine.storedBytes, armed.offset]
  exact Memory.readBytes_writeBytes s.rxBuf 0 bytes

/-- The seventh byte reads the length field, whatever is left in RXBUF behind it (R145). -/
theorem Armed.bytesArrive_header {s : State} (armed : Armed s) {f : List Byte} (seven : 7 ≤ f.length) :
    bytesArrive (f.take 7) s =
      if remainingBytes (be16 f 4) = 0 then frameComplete (Machine.storedBytes (f.take 7) s)
      else .next (withPhase .body (BitVec.ofNat 16 (remainingBytes (be16 f 4))) (Machine.storedBytes (f.take 7) s)) := by
  have six : (f.take 6).length = 6 := List.length_take_of_le (by omega)
  have need : s.rxNeed.toNat = 7 := by rw [armed.need]; rfl
  have held := armed.readBytes (f.take 7)
  rw [List.length_take_of_le seven] at held
  rw [← headerComplete_eq held, List.take_succ_eq_append_getElem (by omega),
    armed.bytesArrive_last (by omega) (by rw [armed.offset, six]; decide), if_pos armed.header]

/-- The state of such a receive after the first 7 + j bytes of f, which does not end at the header. -/
def inBody (f : List Byte) (j : Nat) (s : State) : State :=
  withPhase .body (BitVec.ofNat 16 (remainingBytes (be16 f 4) - j)) (storedBytes (f.take (7 + j)) s)

/-- Bytes that are stored in the body stand behind those of the header, and count it down. -/
theorem Armed.storedBytes_inBody {s : State} (armed : Armed s) {f : List Byte} {j : Nat} (inside : 7 + j ≤ f.length)
    (small : j ≤ remainingBytes (be16 f 4)) :
    Machine.storedBytes ((f.drop 7).take j) (inBody f 0 s) = inBody f j s := by
  have room : s.rxLen.toNat + (f.take 7).length ≤ Config.rxCap := by
    rw [armed.offset, List.length_take_of_le (by omega)]
    decide
  have size : ((f.drop 7).take j).length = j := List.length_take_of_le (by rw [List.length_drop]; omega)
  have need : BitVec.ofNat 16 (remainingBytes (be16 f 4)) - BitVec.ofNat 16 j =
      BitVec.ofNat 16 (remainingBytes (be16 f 4) - j) := by
    rw [BitVec.ofNat_sub_ofNat_of_le _ _ (by have := (be16 f 4).isLt; unfold remainingBytes at small; omega) small]
  unfold inBody
  rw [storedBytes_withPhase, storedBytes_append room, size, Nat.sub_zero, need, List.take_add]

theorem Armed.taking_inBody {s : State} (armed : Armed s) (f : List Byte) (j : Nat) : Taking (inBody f j s) where
  armed := by simp [inBody, withPhase]
  queue := armed.queue
  still_open := armed.still_open

theorem inBody_rxNeed {s : State} (f : List Byte) : (inBody f 0 s).rxNeed.toNat = remainingBytes (be16 f 4) := by
  have width := (be16 f 4).isLt
  exact Nat.mod_eq_of_lt (by unfold remainingBytes; omega)

theorem Armed.inBody_rxLen {s : State} (armed : Armed s) {f : List Byte} (seven : 7 ≤ f.length) :
    (inBody f 0 s).rxLen.toNat = 7 := by
  have size : (f.take 7).length = 7 := List.length_take_of_le seven
  have stored := storedBytes_rxLen (s := s) (bytes := f.take 7) (by rw [armed.offset, size]; decide)
  rwa [armed.offset, size] at stored

theorem Armed.bytesArrive_take {s : State} (armed : Armed s) {f : List Byte} {j : Nat} (inside : 7 + j ≤ f.length)
    (body : remainingBytes (be16 f 4) ≠ 0) :
    bytesArrive (f.take (7 + j)) s = bytesArrive ((f.drop 7).take j) (inBody f 0 s) := by
  rw [List.take_add, bytesArrive_append, armed.bytesArrive_header (by omega), if_neg body]
  rfl

/-- Short of the end of the body a receive goes on collecting (R144, R145). -/
theorem Armed.bytesArrive_body {s : State} (armed : Armed s) {f : List Byte} {j : Nat} (inside : 7 + j ≤ f.length)
    (more : j < remainingBytes (be16 f 4)) : bytesArrive (f.take (7 + j)) s = .next (inBody f j s) := by
  have size : ((f.drop 7).take j).length = j := List.length_take_of_le (by rw [List.length_drop]; omega)
  have width := (be16 f 4).isLt
  have bound : remainingBytes (be16 f 4) ≤ 65534 := by unfold remainingBytes; omega
  have stored := (armed.taking_inBody f 0).bytesArrive_more (bytes := (f.drop 7).take j)
    (by rw [size, inBody_rxNeed]; exact more)
    (by rw [size, armed.inBody_rxLen (by omega)]; unfold Config.rxCap; omega)
  rw [armed.bytesArrive_take inside (by omega), stored, armed.storedBytes_inBody inside more.le]

/-- At the last byte that the length field declares the frame is complete (R146). -/
theorem Armed.bytesArrive_whole {s : State} (armed : Armed s) {f : List Byte} {n : Nat}
    (declared : n = 7 + remainingBytes (be16 f 4)) (inside : n ≤ f.length) :
    bytesArrive (f.take n) s = frameComplete (Machine.storedBytes (f.take n) s) := by
  rcases Nat.eq_zero_or_pos (remainingBytes (be16 f 4)) with header | body
  · obtain rfl : n = 7 := by omega
    rw [armed.bytesArrive_header (by omega), if_pos header]
  · obtain ⟨j, last⟩ : ∃ j, remainingBytes (be16 f 4) = j + 1 := ⟨_, (Nat.succ_pred_eq_of_pos body).symm⟩
    rw [last] at declared
    subst declared
    have width := (be16 f 4).isLt
    have bound : remainingBytes (be16 f 4) ≤ 65534 := by unfold remainingBytes; omega
    have size : ((f.drop 7).take j).length = j := List.length_take_of_le (by rw [List.length_drop]; omega)
    have behind : j < (f.drop 7).length := by rw [List.length_drop]; omega
    have split := List.take_succ_eq_append_getElem behind
    have ended := (armed.taking_inBody f 0).bytesArrive_last (bytes := (f.drop 7).take j) (b := (f.drop 7)[j])
      (by rw [size, inBody_rxNeed, last])
      (by rw [size, armed.inBody_rxLen (by omega)]; unfold Config.rxCap; omega)
    rw [armed.bytesArrive_take inside (by omega), split, ended, if_neg (by simp [inBody, withPhase]), ← split,
      armed.storedBytes_inBody inside last.ge, inBody, frameComplete_withPhase]

/-! ### What comes behind a frame -/

theorem applyFrame_stream (f : List Byte) (s : State) :
    (applyFrame f s).rxState = s.rxState ∧ (applyFrame f s).rxQueue = s.rxQueue ∧
      (applyFrame f s).peerClosed = s.peerClosed := by
  rcases applyFrame_cases f s with ⟨k, sub, -, he⟩ | ⟨r, -, he⟩ <;> rw [he] <;> exact ⟨rfl, rfl, rfl⟩

theorem decodeResponseFrame_stream {s t : State} (h : decodeResponseFrame s = .next t) :
    t.rxState = s.rxState ∧ t.rxQueue = s.rxQueue ∧ t.peerClosed = s.peerClosed := by
  rcases decodeResponseFrame_next s t h with ⟨-, rfl⟩ | ⟨-, f, -, rfl⟩
  · exact ⟨rfl, rfl, rfl⟩
  · exact applyFrame_stream f s

/-- DECODE does not look at what waits: bytes that arrive after it could as well have waited before it. -/
theorem bytesArrive_after_decode {s : State} (idle : s.rxState = .idle) (queue : s.rxQueue = [])
    (still_open : s.peerClosed = false) (rest : List Byte) :
    andThen (decodeResponseFrame s) (bytesArrive rest) =
      decodeResponseFrame (withStream (rest.map Answer.byte) s.peerClosed s) := by
  rw [decodeResponseFrame_ignoresStream]
  cases decoded : decodeResponseFrame s with
  | next t =>
    obtain ⟨sameState, sameQueue, sameClosed⟩ := decodeResponseFrame_stream decoded
    have waits := bytesArrive_idle (sameState.trans idle) (sameClosed.trans still_open) rest
    rwa [sameQueue, queue, sameClosed] at waits
  | fault r => rfl
  | refused r => rfl

/-- The state of a frame that is complete, with its command ended and bytes waiting behind it. -/
def frameTaken (bytes rest : List Byte) (s : State) : State :=
  withStream (rest.map Answer.byte) s.peerClosed { completedFrame (storedBytes bytes s) with pend := .none }

/-- frame-complete for a RECV, with bytes behind the frame. -/
theorem Armed.frameComplete_recv {s : State} (armed : Armed s) (recv : s.pend = .recv) (bytes rest : List Byte) :
    andThen (frameComplete (Machine.storedBytes bytes s)) (bytesArrive rest) =
      .next (complete .ok 0 ((frameTaken bytes rest s).rxLen.setWidth 32) (frameTaken bytes rest s)) := by
  have waits := bytesArrive_idle (s := complete .ok 0 ((Machine.storedBytes bytes s).rxLen.setWidth 32)
    (completedFrame (Machine.storedBytes bytes s))) rfl armed.still_open rest
  rw [Machine.frameComplete_recv (s := Machine.storedBytes bytes s) recv]
  refine waits.trans ?_
  have empty : (Machine.storedBytes bytes s).rxQueue = [] := armed.queue
  rw [complete_rxQueue, empty]
  rfl

/-- frame-complete for a READC or READH, with bytes behind the frame. -/
theorem Armed.frameComplete_read {s : State} (armed : Armed s) (read : s.pend = .read) (bytes rest : List Byte) :
    andThen (frameComplete (Machine.storedBytes bytes s)) (bytesArrive rest) = exec .decode (frameTaken bytes rest s) := by
  have decodes : frameComplete (Machine.storedBytes bytes s) =
      decodeResponseFrame { completedFrame (Machine.storedBytes bytes s) with pend := .none } := by
    have pend : (Machine.storedBytes bytes s).pend = .read := read
    simp only [frameComplete, pend]
  have free : exec .decode (frameTaken bytes rest s) = decodeResponseFrame (frameTaken bytes rest s) :=
    whenFree_free (frameTaken bytes rest s) decodeResponseFrame rfl
  rw [decodes, free]
  exact bytesArrive_after_decode (s := { completedFrame (Machine.storedBytes bytes s) with pend := .none }) rfl armed.queue
    armed.still_open rest

/-! ### The start of a response -/

/-- The length field stands at offset 4 of the nine bytes (R93). -/
theorem be16_responseStart (tid pid len : Half) (unit fc bc : Byte) : be16 (responseStart tid pid len unit fc bc) 4 = len :=
  BitVec.extractLsb'_append_extractLsb' (w := 8)

/-- With a length field of 4 and above the nine bytes end in the body (R145). -/
theorem Armed.bytesArrive_start_body {s : State} (armed : Armed s) {f : List Byte} {len : Half} (nine : f.length = 9)
    (field : be16 f 4 = len) (long : 4 ≤ len.toNat) :
    ∃ t, bytesArrive f s = .next t ∧ t.rxBuf.readBytes 0 9 = some f ∧
      t = { s with rxBuf := t.rxBuf, rxLen := 9, rxState := .body, rxNeed := BitVec.ofNat 16 (len.toNat - 3) } := by
  have whole : f.take (7 + 2) = f := List.take_of_length_le (by omega)
  have held := armed.readBytes f
  have start := armed.start
  have collected := armed.bytesArrive_body (f := f) (j := 2) (by omega) (by rw [remainingBytes, field]; omega)
  rw [nine] at held
  rw [whole] at collected
  refine ⟨_, collected, ?_, ?_⟩
  · simp only [inBody, whole]
    exact held
  · have len9 : s.rxLen + BitVec.ofNat 17 f.length = 9 := by rw [start, nine]; rfl
    have need : remainingBytes (be16 f 4) - 2 = len.toNat - 3 := by rw [remainingBytes, field]; omega
    simp only [inBody, whole, need, withPhase, storedBytes, len9]

/-- With a length field below 4 the frame is complete within the nine bytes, and those behind it wait (R146, R151). -/
theorem Armed.bytesArrive_start_whole {s : State} (armed : Armed s) {f : List Byte} {len : Half} {n : Nat} (nine : f.length = 9)
    (field : be16 f 4 = len) (short : len.toNat ≤ 3) (declared : n = 7 + (len.toNat - 1)) :
    ∃ v, v.rxBuf.readBytes 0 n = some (f.take n) ∧
      v = { s with rxBuf := v.rxBuf, rxLen := BitVec.ofNat 17 n, rxNeed := 0, rxState := .idle, rxValid := true,
                   inFlight := false, pend := .none, rxQueue := (f.drop n).map Answer.byte } ∧
      (s.pend = .recv → bytesArrive f s = .next (complete .ok 0 (BitVec.ofNat 32 n) v)) ∧
      (s.pend = .read → bytesArrive f s = exec .decode v) := by
  have inside : n ≤ f.length := by omega
  have size : (f.take n).length = n := List.length_take_of_le inside
  have held := armed.readBytes (f.take n)
  rw [size] at held
  have count : s.rxLen + BitVec.ofNat 17 (f.take n).length = BitVec.ofNat 17 n := by
    rw [armed.start, size]
    exact BitVec.zero_add _
  have result : (BitVec.ofNat 17 n).setWidth 32 = BitVec.ofNat 32 n := by bv_omega
  have frame : bytesArrive f s = andThen (frameComplete (Machine.storedBytes (f.take n) s)) (bytesArrive (f.drop n)) := by
    rw [← armed.bytesArrive_whole (by rw [declared, remainingBytes, field]) inside, ← bytesArrive_append,
      List.take_append_drop]
  refine ⟨frameTaken (f.take n) (f.drop n) s, held, ?_, fun recv => ?_, fun read => ?_⟩
  · simp only [frameTaken, withStream, Machine.storedBytes, count]
  · rw [frame, armed.frameComplete_recv recv, ← result]
    simp only [frameTaken, withStream, Machine.storedBytes, count]
  · rw [frame, armed.frameComplete_read read]

/-- In a body that needs more than them the bytes are stored behind what it holds (R144). -/
theorem Taking.bytesArrive_behind {s : State} (taking : Taking s) {f : List Byte} (more : f.length < s.rxNeed.toNat)
    (room : s.rxLen.toNat + f.length ≤ Config.rxCap) :
    ∃ t, bytesArrive f s = .next t ∧ t.rxLen.toNat = s.rxLen.toNat + f.length ∧
      t.rxNeed.toNat = s.rxNeed.toNat - f.length ∧
      (∀ a, t.rxBuf.read? a =
        if s.rxLen.toNat ≤ a ∧ a < s.rxLen.toNat + f.length then f[a - s.rxLen.toNat]? else s.rxBuf.read? a) ∧
      t = { s with rxBuf := t.rxBuf, rxLen := t.rxLen, rxNeed := t.rxNeed } :=
  ⟨_, taking.bytesArrive_more more room, storedBytes_rxLen room, storedBytes_rxNeed more.le,
    fun a => Memory.read?_writeBytes s.rxBuf s.rxLen.toNat a f, rfl⟩

/-- Settles O43: the row is its nine bytes, which wait, end in the body, complete the frame, or stand behind what a body holds. -/
theorem responseStartIsReceived : Obligations.ResponseStartIsReceived := by
  intro tid pid len unit fc bc s f bytes
  obtain rfl : f = responseStart tid pid len unit fc bc := bytes
  have field := be16_responseStart tid pid len unit fc bc
  generalize row : responseStart tid pid len unit fc bc = f at field ⊢
  have nine : f.length = 9 := by rw [← row]; rfl
  have arrives : exec (.frameRsp tid pid len unit fc bc) s = bytesArrive f s := by rw [← row]; rfl
  rw [arrives]
  refine ⟨rfl, fun closed quiet => bytesArrive_closed closed quiet f, fun still_open => ⟨fun idle => ?_, ?_, ?_⟩⟩
  · exact bytesArrive_idle idle still_open f
  · intro queue header need start
    have armed : Armed s := ⟨⟨by simp [header], queue, still_open⟩, header, need, start⟩
    exact ⟨armed.bytesArrive_start_body nine field, fun n => armed.bytesArrive_start_whole nine field⟩
  · intro queue body need room
    have taking : Taking s := ⟨by simp [body], queue, still_open⟩
    have stored := taking.bytesArrive_behind (f := f) (by omega) (by unfold Config.rxCap; omega)
    rwa [nine] at stored

end Sys2Proof.Machine
end

section
/-! BUILD: its checks as conditions on the operands, what it leaves after each outcome, and the request frame as twelve numbers (R92,
R130 to R133). -/

namespace Sys2Proof.Machine

/-! ### The checks -/

theorem supportedFc_eq_false_iff (fc : Byte) : supportedFc fc = false ↔ fc ≠ 0x01#8 ∧ fc ≠ 0x03#8 := by
  rw [← Bool.not_eq_true, supportedFc_iff, not_or]

theorem overMaxima_iff (fc : Byte) (count : Half) :
    overMaxima fc count = true ↔ (fc = 0x03#8 ∧ count.toNat > 125) ∨ (fc = 0x01#8 ∧ count.toNat > 2000) := by
  simp [overMaxima]

/-- The checks in R132's order, with the operands as numbers and both maxima written out (R10, R130). -/
theorem buildFailure_eq (enforceMaxima : Bool) (fc : Byte) (o : BuildOperands) :
    buildFailure enforceMaxima fc o =
      (if o.ps = false then some 0
       else if o.pc = false then some 1
       else if fc ≠ 0x01#8 ∧ fc ≠ 0x03#8 then some 4
       else if o.start.toNat < 1 ∨ o.start.toNat > 65536 then some 2
       else if o.count.toNat = 0 then some 3
       else if enforceMaxima = true ∧
          ((fc = 0x03#8 ∧ o.count.toNat > 125) ∨ (fc = 0x01#8 ∧ o.count.toNat > 2000)) then some 5
       else none) := by
  have noCount : o.count = 0 ↔ o.count.toNat = 0 := BitVec.toNat_eq
  simp only [buildFailure, supportedFc_eq_false_iff, Bool.and_eq_true, overMaxima_iff, gt_iff_lt, noCount]

/-! ### The outcomes -/

/-- BUILD with operands that fail a check reports the first one, and the Request is no longer valid (R130). -/
theorem exec_build_invalid {s : State} {fc : Byte} {o : BuildOperands} {sub : BitVec 4} (free : s.pend = .none)
    (failing : buildFailure s.enforceMaxima fc o = some sub) :
    exec (.build fc o) s = .next (raiseFailure .validation sub (invalidateRequest s)) := by
  refine (whenFree_free s (fun s => .next (buildRequest fc o s)) free).trans ?_
  simp only [buildRequest, failing]

/-- While REQVALID is 0 the host reads no Request register and no byte of TXBUF (R22, R231). -/
theorem request_unreadable {s : State} (invalid : s.reqValid = false) :
    readStatus s 3 = none ∧ readStatus s 4 = none ∧ ∀ offset, readWindowByte s 0 offset = none := by
  simp [readStatus, readWindowByte, invalid]

/-- Settles O9: the statement's checks are BUILD's, and each outcome of them is one completion over one update of the Request group. -/
theorem buildReportsTheFirstFailureOrWritesTheRequest : Obligations.BuildReportsTheFirstFailureOrWritesTheRequest := by
  intro fc o s failure free checks
  rw [← buildFailure_eq] at checks
  cases failure with
  | some sub => exact ⟨_, exec_build_invalid free checks.symm, rfl, request_unreadable rfl⟩
  | none => exact ⟨_, exec_build_valid free checks.symm, rfl⟩

/-! ### The frame -/

/-- The bytes of a half word, the more significant one first (R15). -/
theorem bytesBe16_toNat (v : Half) : (bytesBe16 v).map BitVec.toNat = [v.toNat / 256, v.toNat % 256] := by
  have high : v.toNat / 256 % 256 = v.toNat / 256 := Nat.mod_eq_of_lt (by omega)
  simp [bytesBe16, Nat.shiftRight_eq_div_pow, high]

/-- The request frame as numbers: protocol_id 0, length 6, every field big-endian (R92). -/
theorem requestFrame_toNat (tid : Half) (unit fc : Byte) (addr qty : Half) :
    (requestFrame tid unit fc addr qty).map BitVec.toNat =
      [tid.toNat / 256, tid.toNat % 256, 0, 0, 0, 6, unit.toNat, fc.toNat, addr.toNat / 256, addr.toNat % 256,
        qty.toNat / 256, qty.toNat % 256] := by
  simp only [requestFrame, List.map_append, bytesBe16_toNat]
  rfl

/-- A start address in range loses nothing in its 16-bit register (R96, R131). -/
theorem startAddress_toNat {start : BitVec 24} (low : 1 ≤ start.toNat) (high : start.toNat ≤ 65536) :
    (startAddress start).toNat + 1 = start.toNat := by
  rw [startAddress, BitVec.toNat_ofNat, Nat.mod_eq_of_lt (by omega)]
  omega

/-- A BUILD that leaves a valid Request has passed every check, and wrote the registers. -/
theorem exec_build_succeeded {s t : State} {fc : Byte} {o : BuildOperands} (free : s.pend = .none)
    (run : exec (.build fc o) s = .next t) (valid : t.reqValid = true) :
    buildFailure s.enforceMaxima fc o = none ∧ t = complete .ok 0 0 (setRequest fc o s) := by
  cases outcome : buildFailure s.enforceMaxima fc o with
  | some sub =>
    rw [exec_build_invalid free outcome] at run
    cases run
    cases valid
  | none =>
    rw [exec_build_valid free outcome] at run
    cases run
    exact ⟨rfl, rfl⟩

/-- Settles O10: a successful BUILD has passed R130's checks, so START - 1 fits REQ_ADDR, and TXBUF is the frame of the registers it
wrote. -/
theorem builtFrameIsTheTwelveByteRequest : Obligations.BuiltFrameIsTheTwelveByteRequest := by
  intro fc o s t free run valid
  obtain ⟨passed, rfl⟩ := exec_build_succeeded free run valid
  obtain ⟨-, -, supported, low, high, count⟩ := buildFailure_none _ fc o passed
  exact ⟨startAddress o.start, startAddress_toNat low high, requestFrame_toNat o.tid o.unit fc (startAddress o.start) o.count,
    (supportedFc_iff fc).1 supported, Nat.pos_of_ne_zero fun zero => count (BitVec.eq_of_toNat_eq zero)⟩

end Sys2Proof.Machine
end

section
/-! The commands of the session, whole: CONNECT, DISCONNECT, SEND and RECV (R140 to R143, R161). -/

namespace Sys2Proof.Machine

/-! ### CONNECT -/

theorem exec_connect_free {s : State} (free : s.pend = .none) : exec .connect s = .next (connectSession s) :=
  whenFree_free s (fun s => .next (connectSession s)) free

/-- The answer to a ConnectReq is the next of the inputs, where they hold one. -/
theorem connectReply_of_cons {s : State} {b : Bool} {rest : List Bool} (answers : s.connAnswers = b :: rest) :
    connectReply s = b := by
  simp only [connectReply, answers]

/-- ConnectReq goes out and uses up its answer, or draws one where the inputs hold none (R140; log entry 6). -/
theorem connectReq_eq_update (s : State) :
    connectReq s =
      { s with transport := s.transport ++ [.connect], connAnswers := s.connAnswers.tail,
               free := if s.connAnswers = [] then s.free + 1 else s.free } := by
  unfold connectReq
  split
  · next answers => simp [answers]
  · next answers => simp [answers]

/-- Settles O11: the answer is the reply to the one ConnectReq, and each of the three outcomes is one completion. -/
theorem connectRecordsTheCollaboratorsAnswer : Obligations.ConnectRecordsTheCollaboratorsAnswer := by
  intro s free
  refine ⟨connectReply s, fun b rest answers => connectReply_of_cons answers, ?_⟩
  rw [exec_connect_free free, connectSession, connectReq_eq_update]
  rfl

/-! ### DISCONNECT -/

/-- Settles O12: the record of the receive that is given up stands before the end of the session. -/
theorem disconnectClosesAndForcesAPendingReceive : Obligations.DisconnectClosesAndForcesAPendingReceive := by
  intro s t u abandoned closed
  have abandoned : abandonReceive s = t := abandoned.symm
  have closed : closeSession t = u := closed.symm
  change Host.Outcome.next (complete .ok 0 0 { closeSession (abandonReceive s) with inFlight := false }) = _
  rw [abandoned, closed]

@[simp] theorem closeSession_link (s : State) : (closeSession s).link = false := by
  obtain ⟨transport, queue, closed, ended⟩ := closeSession_eq s
  rw [ended]

/-- A DISCONNECT with nothing left to end only completes. -/
theorem exec_disconnect_ended {s : State} (free : s.pend = .none) (unlinked : s.link = false) (quiet : s.inFlight = false) :
    exec .disconnect s = .next (complete .ok 0 0 s) := by
  have abandoned : abandonReceive s = s := if_pos free
  have closed : closeSession s = s := if_neg (by simp [unlinked])
  change Host.Outcome.next (complete .ok 0 0 { closeSession (abandonReceive s) with inFlight := false }) = _
  rw [abandoned, closed, ← quiet]

/-- After a success of sub-code 0 another one only adds its record. -/
theorem complete_ok_again (res res' : Word32) (s : State) :
    complete .ok 0 res' (complete .ok 0 res s) =
      { complete .ok 0 res s with results := (complete .ok 0 res s).results ++ [⟨.ok, 0, res'⟩] } := by
  rw [complete_ok_eq 0 res', complete_ok_eq 0 res]

/-- A DISCONNECT ends as a success with the session closed and nothing in flight. -/
theorem exec_disconnect_next {s t : State} (h : exec .disconnect s = .next t) :
    ∃ u, t = complete .ok 0 0 u ∧ u.link = false ∧ u.inFlight = false := by
  cases h
  exact ⟨_, rfl, closeSession_link _, rfl⟩

/-- Settles O13: what a DISCONNECT leaves has nothing to end, and its success is in ERR already. -/
theorem secondDisconnectOnlyAddsItsRecord : Obligations.SecondDisconnectOnlyAddsItsRecord := by
  intro s t first
  obtain ⟨u, rfl, unlinked, quiet⟩ := exec_disconnect_next first
  rw [exec_disconnect_ended (complete_pend .ok 0 0 u) unlinked quiet, complete_ok_again]

/-! ### SEND and RECV -/

/-- Settles O14: while nothing is pending SEND runs its body, whose branches are the statement's, in their order. -/
theorem sendPushesTxbufOrReportsWhatIsMissing : Obligations.SendPushesTxbufOrReportsWhatIsMissing := by
  intro s free
  have taken : exec .send s = .next (sendRequest s) := whenFree_free s (fun s => .next (sendRequest s)) free
  rw [taken]
  rfl

/-- Settles O15: RECV fails without a session, and otherwise leaves an RXBUF of no bytes, which the host cannot read. -/
theorem recvArmsTheDeframer : Obligations.RecvArmsTheDeframer := by
  intro s free
  refine ⟨fun unlinked => ?_, fun linked => ?_⟩
  · have failed : startReceive s = complete .notConnected 0 0 s := if_pos unlinked
    rw [← failed]
    exact whenFree_free s (fun s => .next (startReceive s)) free
  · exact ⟨armReceive .recv s, exec_recv_linked free linked, rfl, fun offset => by simp [readWindowByte, armReceive]⟩

end Sys2Proof.Machine
end

section
/-! One answer to an armed receive: the byte that ends no phase, the last of the header, the last of a frame, and the
answers that end a receive without one (R144 to R149). -/

namespace Sys2Proof.Machine

/-! ### An answer that joins the others -/

/-- Away from a byte behind a `Closed` an answer joins the others, and the mark of a close is set by a `Closed` only (R75). -/
theorem queueAnswer_eq {a : Answer} {s : State} (can_come : s.peerClosed = true → a.isByte = false) :
    queueAnswer a s =
      { s with rxQueue := s.rxQueue ++ [a], peerClosed := s.peerClosed || decide (a = .closed) } := by
  cases a with
  | byte b =>
    have still_open : s.peerClosed = false := by
      rw [← Bool.not_eq_true]
      exact fun closed => Bool.noConfusion (can_come closed)
    simp [queueAnswer, still_open]
  | closed => simp [queueAnswer]
  | fault => simp [queueAnswer]

/-- An answer that arrives at an armed receive with nothing before it is taken at once. -/
theorem answerArrives_armed {a : Answer} {s : State} (armed : s.rxState ≠ .idle) (queue : s.rxQueue = [])
    (can_come : s.peerClosed = true → a.isByte = false) :
    answerArrives a s = deframe a { s with peerClosed := s.peerClosed || decide (a = .closed) } := by
  have alone : (queueAnswer a s).rxQueue = a :: [] := by rw [queueAnswer_eq can_come, queue]; rfl
  have state : (queueAnswer a s).rxState ≠ .idle := by rw [queueAnswer_eq can_come]; exact armed
  rw [answerArrives, collaboratorTurn_armed state alone, queueAnswer_eq can_come, ← queue]

/-! ### Bytes -/

theorem Taking.exec_answerByte {s : State} (taking : Taking s) (b : Byte) : exec (.answerByte b) s = deframeByte b s :=
  taking.answerArrives b

/-- A byte of a receive stands at offset RXLEN, and every other offset is as before (R144). -/
theorem storedByte_read? (b : Byte) (s : State) (a : Nat) :
    (storedByte b s).rxBuf.read? a = if a = s.rxLen.toNat then some b else s.rxBuf.read? a :=
  Memory.read?_write s.rxBuf s.rxLen.toNat a b

theorem storedByte_rxLen (b : Byte) (s : State) : (storedByte b s).rxLen = BitVec.ofNat 17 (s.rxLen.toNat + 1) := by
  bv_omega

/-- Settles O17: a byte that does not end its phase is stored, and that is all. -/
theorem answerByteStoresOneByte : Obligations.AnswerByteStoresOneByte := by
  intro b s armed queue still_open more room
  have taking : Taking s := ⟨armed, queue, still_open⟩
  have unfinished : s.rxNeed - 1 ≠ 0 := by bv_omega
  refine ⟨storedByte b s, ?_, ?_, ?_, storedByte_read? b s, rfl⟩
  · rw [taking.exec_answerByte, deframeByte_eq b room, if_neg unfinished]
  · exact storedBytes_rxLen (bytes := [b]) room
  · exact storedBytes_rxNeed (bytes := [b]) (show 1 ≤ s.rxNeed.toNat by omega)

/-- The seventh byte leaves the length field at offsets 4 and 5 as it is, and ends the header by it (R145). -/
theorem headerComplete_storedByte {s : State} {hi lo : Byte} (b : Byte) (six : s.rxLen = 6)
    (high : s.rxBuf.read? 4 = some hi) (low : s.rxBuf.read? 5 = some lo) :
    headerComplete (storedByte b s) =
      if hi.toNat * 256 + lo.toNat - 1 = 0 then frameComplete (storedByte b s)
      else .next (withPhase .body (BitVec.ofNat 16 (hi.toNat * 256 + lo.toNat - 1)) (storedByte b s)) := by
  have field : (storedByte b s).rxBuf.readBytes 4 2 = some [hi, lo] := by
    have before (a : Nat) (below : a < 6) : (storedByte b s).rxBuf.read? a = s.rxBuf.read? a := by
      rw [storedByte_read?, six]
      exact if_neg below.ne
    simp only [Memory.readBytes, before 4 (by decide), before (4 + 1) (by decide), high, low]
  have value : remainingBytes (be16 [hi, lo] 0) = hi.toNat * 256 + lo.toNat - 1 := by
    rw [remainingBytes, be16_toNat]
    rfl
  simp only [headerComplete, field, value, withPhase]

/-- Settles O18: the length field says that a body follows. -/
theorem headerCompleteArmsTheBody : Obligations.HeaderCompleteArmsTheBody := by
  intro b hi lo s header queue still_open last six high low long
  have taking : Taking s := ⟨by simp [header], queue, still_open⟩
  have room : s.rxLen.toNat < Config.rxCap := by rw [six]; decide
  have stored := storedByte_read? b s
  rw [six] at stored
  have seven : s.rxLen + 1 = 7 := by rw [six]; rfl
  refine ⟨withPhase .body (BitVec.ofNat 16 (hi.toNat * 256 + lo.toNat - 1)) (storedByte b s), ?_, ?_, stored, ?_⟩
  · rw [taking.exec_answerByte, deframeByte_eq b room, if_pos (by rw [last]; rfl), if_pos header,
      headerComplete_storedByte b six high low, if_neg (by omega)]
  · simp only [withPhase]
    bv_omega
  · simp only [withPhase, seven]

/-- The last byte of a frame: the last of a body, or the seventh where the length field is 0 or 1 (R145, R151). -/
def endsFrame (s : State) : Prop :=
  s.rxState = .body ∨
    (s.rxState = .hdr ∧ s.rxLen = 6 ∧ s.rxBuf.read? 4 = some 0#8 ∧
      (s.rxBuf.read? 5 = some 0#8 ∨ s.rxBuf.read? 5 = some 1#8))

/-- At the last byte of a frame the frame is complete (R146). -/
theorem exec_answerByte_endsFrame {s : State} (b : Byte) (queue : s.rxQueue = []) (still_open : s.peerClosed = false)
    (last : s.rxNeed = 1) (room : s.rxLen.toNat < Config.rxCap) (ends : endsFrame s) :
    exec (.answerByte b) s = frameComplete (storedByte b s) := by
  have armed : s.rxState ≠ .idle := by
    rcases ends with body | ⟨header, -⟩
    · rw [body]; decide
    · rw [header]; decide
  have taking : Taking s := ⟨armed, queue, still_open⟩
  rw [taking.exec_answerByte, deframeByte_eq b room, if_pos (by rw [last]; rfl)]
  rcases ends with body | ⟨header, six, high, low | low⟩
  · rw [if_neg (by simp [body])]
  · rw [if_pos header, headerComplete_storedByte b six high low]
    exact if_pos (by decide)
  · rw [if_pos header, headerComplete_storedByte b six high low]
    exact if_pos (by decide)

/-- Settles O19: frame-complete ends the RECV, with RXLEN after the byte as its result. -/
theorem frameCompleteEndsRecv : Obligations.FrameCompleteEndsRecv := by
  intro b s recv queue still_open last room ends
  have result : (BitVec.ofNat 17 (s.rxLen.toNat + 1)).setWidth 32 = BitVec.ofNat 32 (s.rxLen.toNat + 1) := by bv_omega
  have completed := frameComplete_recv (s := storedByte b s) recv
  rw [← exec_answerByte_endsFrame b queue still_open last room ends, storedByte_rxLen b s, result] at completed
  refine ⟨_, completed, storedByte_read? b s, ?_⟩
  rw [← storedByte_rxLen b s]
  rfl

/-- frame-complete for a READC or READH is DECODE with nothing pending (R146). -/
theorem frameComplete_read {s : State} (read : s.pend = .read) :
    frameComplete s = exec .decode { completedFrame s with pend := .none } := by
  have free := whenFree_free { completedFrame s with pend := .none } decodeResponseFrame rfl
  refine Eq.trans ?_ free.symm
  simp only [frameComplete, read]

/-- Settles O20: frame-complete goes on as the DECODE of the frame. -/
theorem frameCompleteOfAReadRunsDecode : Obligations.FrameCompleteOfAReadRunsDecode := by
  intro b s read queue still_open last room ends
  rw [exec_answerByte_endsFrame b queue still_open last room ends, frameComplete_read (s := storedByte b s) read,
    ← storedByte_rxLen b s]

/-! ### The other answers -/

/-- Settles O21: the deframer's step on a `Closed`, behind the mark of the close. -/
theorem closedAnswerEndsTheReceive : Obligations.ClosedAnswerEndsTheReceive := by
  intro s armed queue
  exact ⟨_, answerArrives_armed armed queue fun _ => rfl, rfl⟩

/-- Settles O22: the deframer's step on a `Fault`, which marks no close. -/
theorem faultAnswerEndsTheReceive : Obligations.FaultAnswerEndsTheReceive := by
  intro s armed queue
  have taken := answerArrives_armed (a := .fault) armed queue fun _ => rfl
  rw [show (s.peerClosed || decide (Answer.fault = .closed)) = s.peerClosed from Bool.or_false _] at taken
  exact taken

/-- Settles O23: no answer is no step of the deframer, and an empty inbox is no move. -/
theorem withoutAnAnswerNothingChanges : Obligations.WithoutAnAnswerNothingChanges := by
  intro s
  refine ⟨rfl, fun quiet => ?_⟩
  simp only [step, stepOnce, quiet]

end Sys2Proof.Machine
end

section
/-! A group of answers, taken turn by turn or arriving one by one (R75, R150): a turn commutes with what stands behind the
answer it takes. -/

namespace Sys2Proof.Machine

/-! ### The deframer does not look at the coming moves -/

/-- A state with other moves to come. -/
def withInbox (inbox : List Event) (s : State) : State := { s with inbox := inbox }

/-- What a deframer operation does is the same before every inbox. -/
def ignoresInbox (f : State → Result) : Prop :=
  ∀ inbox s, f (withInbox inbox s) = andThen (f s) fun t => .next (withInbox inbox t)

theorem applyFrame_withInbox (f : List Byte) (inbox : List Event) (s : State) :
    applyFrame f (withInbox inbox s) = withInbox inbox (applyFrame f s) := by
  unfold applyFrame
  split <;> rfl

theorem andThen_ite (c : Prop) [Decidable c] (x y : Result) (f : State → Result) :
    andThen (if c then x else y) f = if c then andThen x f else andThen y f :=
  apply_ite (andThen · f) c x y

theorem decodeResponseFrame_ignoresInbox : ignoresInbox decodeResponseFrame := by
  intro inbox s
  unfold decodeResponseFrame
  rw [andThen_ite]
  refine ite_congr rfl (fun _ => rfl) fun _ => ?_
  simp only [withInbox]
  cases s.rxBuf.readBytes 0 s.rxLen.toNat with
  | none => rfl
  | some f => exact congrArg Host.Outcome.next (applyFrame_withInbox f inbox s)

theorem frameComplete_ignoresInbox : ignoresInbox frameComplete := by
  intro inbox s
  simp only [frameComplete, withInbox]
  cases s.pend with
  | none | recv => rfl
  | read => exact decodeResponseFrame_ignoresInbox inbox { completedFrame s with pend := .none }

theorem headerComplete_ignoresInbox : ignoresInbox headerComplete := by
  intro inbox s
  simp only [headerComplete, withInbox]
  cases s.rxBuf.readBytes 4 2 with
  | none => rfl
  | some bytes =>
    simp only [andThen_ite]
    exact ite_congr rfl (fun _ => frameComplete_ignoresInbox inbox s) fun _ => rfl

theorem deframeByte_full {s : State} (b : Byte) (full : ¬s.rxLen.toNat < Config.rxCap) :
    deframeByte b s = .fault .outsideBuffer := by
  have none_fits : writeBuffer Config.rxCap s.rxBuf s.rxLen.toNat [b] = none := if_neg full
  simp only [deframeByte, none_fits]

theorem deframeByte_ignoresInbox (b : Byte) : ignoresInbox (deframeByte b) := by
  intro inbox s
  by_cases room : s.rxLen.toNat < Config.rxCap
  · rw [deframeByte_eq (s := withInbox inbox s) b room, deframeByte_eq b room, andThen_ite, andThen_ite]
    refine ite_congr rfl (fun _ => ?_) fun _ => rfl
    exact ite_congr rfl (fun _ => headerComplete_ignoresInbox inbox (storedByte b s)) fun _ =>
      frameComplete_ignoresInbox inbox (storedByte b s)
  · rw [deframeByte_full (s := withInbox inbox s) b room, deframeByte_full b room]
    rfl

theorem deframe_ignoresInbox (a : Answer) : ignoresInbox (deframe a) := by
  cases a with
  | byte b => exact deframeByte_ignoresInbox b
  | closed => exact fun _ _ => rfl
  | fault => exact fun _ _ => rfl

/-- The deframer changes nothing of the collaborator and none of the coming moves. -/
theorem deframe_keeps {a : Answer} {s t : State} (h : deframe a s = .next t) :
    t.rxQueue = s.rxQueue ∧ t.peerClosed = s.peerClosed ∧ t.inbox = s.inbox := by
  have stream : t = withStream s.rxQueue s.peerClosed t :=
    Host.Outcome.next.inj (h.symm.trans
      (deframe_withStream_next (queue := s.rxQueue) (closed := s.peerClosed) (s := s) h s.rxQueue s.peerClosed))
  have inbox : deframe a s = andThen (deframe a s) fun t => .next (withInbox s.inbox t) :=
    deframe_ignoresInbox a s.inbox s
  rw [h, andThen_of_next] at inbox
  have inbox : t = withInbox s.inbox t := Host.Outcome.next.inj inbox
  exact ⟨by rw [stream]; rfl, by rw [stream]; rfl, by rw [inbox]; rfl⟩

/-! ### A turn with a group behind it -/

/-- A group of answers stands behind those that wait, with one turn of the collaborator to come for each of them. -/
def withGroup (group : List Answer) (s : State) : State :=
  { s with
    rxQueue := s.rxQueue ++ group
    peerClosed := s.peerClosed || decide (.closed ∈ group)
    inbox := List.replicate group.length .collaborator ++ s.inbox }

/-- No byte of the group comes after a `Closed` (R75). -/
def CanCome (group : List Answer) (s : State) : Prop :=
  (s.peerClosed = true → ∀ a ∈ group, a.isByte = false) ∧ group.Pairwise fun a b => a = .closed → b.isByte = false

/-- No answer waits for a receive that is armed. -/
def Drained (s : State) : Prop := s.rxState ≠ .idle → s.rxQueue = []

/-- The deframer step on an answer does not look at the group behind it. -/
theorem deframe_withGroup (a : Answer) (group : List Answer) (s : State) :
    deframe a (withGroup group s) = andThen (deframe a s) fun t => .next (withGroup group t) := by
  have other := deframe_ignoresStream a (s.rxQueue ++ group) (s.peerClosed || decide (.closed ∈ group))
    (withInbox (List.replicate group.length .collaborator ++ s.inbox) s)
  refine other.trans ?_
  rw [deframe_ignoresInbox]
  cases h : deframe a s with
  | next t =>
    obtain ⟨queue, closed, inbox⟩ := deframe_keeps h
    simp only [andThen_of_next, withGroup, queue, closed, inbox]
    rfl
  | fault r => rfl
  | refused r => rfl

/-- Where an answer waits, or none is taken, a turn does not look at the group behind it. -/
theorem collaboratorTurn_withGroup {s : State} (first : s.rxState = .idle ∨ s.rxQueue ≠ []) (group : List Answer) :
    collaboratorTurn (withGroup group s) = andThen (collaboratorTurn s) fun t => .next (withGroup group t) := by
  by_cases idle : s.rxState = .idle
  · rw [collaboratorTurn_idle idle]
    exact collaboratorTurn_idle (s := withGroup group s) idle
  · obtain ⟨a, rest, queue⟩ := List.exists_cons_of_ne_nil (first.resolve_left idle)
    have longer : (withGroup group s).rxQueue = a :: (rest ++ group) := by rw [withGroup, queue]; rfl
    rw [collaboratorTurn_armed idle queue, collaboratorTurn_armed (s := withGroup group s) idle longer]
    exact deframe_withGroup a group { s with rxQueue := rest }

/-! ### A group, answer by answer -/

theorem CanCome.head {a : Answer} {as : List Answer} {s : State} (h : CanCome (a :: as) s) :
    s.peerClosed = true → a.isByte = false :=
  fun closed => h.1 closed a (by simp)

/-- The turn for the first answer of a group sees the others behind it. -/
theorem step_withGroup_cons {a : Answer} {as : List Answer} {s : State} (h : CanCome (a :: as) s) :
    step (withGroup (a :: as) s) = collaboratorTurn (withGroup as (queueAnswer a s)) := by
  have turn : (withGroup (a :: as) s).inbox =
    .collaborator :: (List.replicate as.length .collaborator ++ s.inbox) := rfl
  rw [step_collaborator turn, queueAnswer_eq h.head]
  have mark : decide (Answer.closed ∈ a :: as) = (decide (a = .closed) || decide (.closed ∈ as)) := by
    simp [eq_comm]
  simp only [withGroup, mark, Bool.or_assoc, List.append_assoc, List.singleton_append]

/-- After the first answer has joined, the others can come behind it. -/
theorem CanCome.tail {a : Answer} {as : List Answer} {s : State} (h : CanCome (a :: as) s) :
    CanCome as (queueAnswer a s) := by
  have first := queueAnswer_eq h.head
  obtain ⟨afterClose, order⟩ := h
  obtain ⟨behind, order⟩ := List.pairwise_cons.1 order
  refine ⟨fun closed b waits => ?_, order⟩
  rw [first] at closed
  rcases Bool.or_eq_true_iff.1 closed with before | now
  · exact afterClose before b (List.mem_cons_of_mem a waits)
  · exact behind b waits (of_decide_eq_true now)

/-- An arriving answer is taken at once, if a receive is armed, and leaves no other mark on the stream than its own. -/
theorem answerArrives_drained {a : Answer} {s t : State} (drained : Drained s)
    (can_come : s.peerClosed = true → a.isByte = false) (h : answerArrives a s = .next t) : Drained t ∧ t.peerClosed = (queueAnswer a s).peerClosed := by
  rcases collaboratorTurn_next _ t h with ⟨none_taken, rfl⟩ | ⟨armed, b, rest, queue, taken⟩
  · refine ⟨fun armed => absurd none_taken (not_or.2 ⟨armed, ?_⟩), rfl⟩
    simp [queueAnswer_eq can_come]
  · obtain ⟨sameQueue, sameClosed, -⟩ := deframe_keeps taken
    rw [queueAnswer_eq can_come] at armed queue
    have alone : b :: rest = [a] := by rw [← queue, drained armed]; rfl
    exact ⟨fun _ => sameQueue.trans (List.cons.inj alone).2, sameClosed⟩

/-- A group that waits as a whole and is taken turn by turn leaves what its answers leave one by one. -/
theorem runSteps_withGroup {group : List Answer} {s : State} (drained : Drained s) (can_come : CanCome group s) :
    runSteps group.length (withGroup group s) = answersArrive group s := by
  induction group generalizing s with
  | nil => simp [runSteps, withGroup, answersArrive]
  | cons a as ih =>
    have first : (queueAnswer a s).rxState = .idle ∨ (queueAnswer a s).rxQueue ≠ [] := by
      simp [queueAnswer_eq can_come.head]
    change andThen (step (withGroup (a :: as) s)) (runSteps as.length) = andThen (answerArrives a s) (answersArrive as)
    rw [step_withGroup_cons can_come, collaboratorTurn_withGroup first, ← answerArrives]
    cases arrived : answerArrives a s with
    | next t =>
      obtain ⟨drained', mark⟩ := answerArrives_drained drained can_come.head arrived
      obtain ⟨afterClose, order⟩ := can_come.tail
      exact ih drained' ⟨mark ▸ afterClose, order⟩
    | fault r => rfl
    | refused r => rfl

/-- Settles O26: the statement's state is the one with the group behind what waits. -/
theorem receiveIsIndependentOfSegmentation : Obligations.ReceiveIsIndependentOfSegmentation := by
  intro group s drained afterClose order
  exact runSteps_withGroup drained ⟨afterClose, order⟩

end Sys2Proof.Machine
end

section
/-! The hold of the command port while a receive is pending (R160, R161; log entry 11). -/

namespace Sys2Proof.Machine

/-- Every command but DISCONNECT and RESET is subject to the hold (R160). -/
theorem exec_eq_whenFree {i : Instr} (command : onCommandPort i = true) (noDisconnect : i ≠ .disconnect)
    (noReset : i ≠ .reset) : ∃ body, ∀ s, exec i s = whenFree s body := by
  cases i with
  | disconnect => exact absurd rfl noDisconnect
  | reset => exact absurd rfl noReset
  | frameReqReadCoils | frameReqReadHoldingRegisters | frameRsp => cases command
  | answerNone | answerByte | answerClosed | answerFault => cases command
  | _ => exact ⟨_, fun _ => rfl⟩

/-- Settles O44: a command that is held does not run its body. -/
theorem heldCommandsChangeNothing : Obligations.HeldCommandsChangeNothing := by
  intro i s command noDisconnect noReset pending
  obtain ⟨body, held⟩ := exec_eq_whenFree command noDisconnect noReset
  rw [held, whenFree_held s body pending]

/-- While a receive is pending the port accepts the words of DISCONNECT and RESET, and no other (R160). -/
theorem portAccepts_iff_of_pending {p : Pend} (pending : p ≠ .none) (c : Command) :
    portAccepts p c = true ↔ c.cw = disconnectWord ∨ c.cw = resetWord := by
  simp [portAccepts, pending]

theorem portAccepts_false_of_pending {p : Pend} {c : Command} (pending : p ≠ .none)
    (other : c.cw ≠ disconnectWord ∧ c.cw ≠ resetWord) : portAccepts p c = false := by
  rw [← Bool.not_eq_true, portAccepts_iff_of_pending pending, not_or]
  exact other

/-- Settles O45: the port accepts none of the words that wait, the new one included, so its turn takes none. -/
theorem heldWordsWaitLegalOrNot : Obligations.HeldWordsWaitLegalOrNot := by
  intro c s es pending arrives others
  have none_taken : takeWaiting s.pend (s.waiting ++ [c]) = none :=
    takeWaiting_eq_none _ _ fun d waits => portAccepts_false_of_pending pending (others d waits)
  rw [step_cons arrives]
  simp only [handleEvent, wordArrives, hostTurn, none_taken]

/-- A word that the port accepts overtakes those before it that the port does not. -/
theorem takeWaiting_overtakes {p : Pend} {before : List Command} {c : Command}
    (held : ∀ d ∈ before, portAccepts p d = false) (accepted : portAccepts p c = true) :
    takeWaiting p (before ++ [c]) = some (c, before) := by
  induction before with
  | nil => simp [takeWaiting, accepted]
  | cons d ds ih =>
    have first : portAccepts p d = false := held d (by simp)
    have rest := ih fun e waits => held e (by simp [waits])
    simp [takeWaiting, first, rest]

/-- Settles O48: the port takes the new word and leaves those before it waiting; the word decodes to its command. -/
theorem disconnectAndResetAreTakenWhilePending : Obligations.DisconnectAndResetAreTakenWhilePending := by
  intro c i s es pending row others arrives
  obtain ⟨accepted, decodes⟩ : (c.cw = disconnectWord ∨ c.cw = resetWord) ∧ decodeCommand c = .ok i := by
    obtain ⟨cw, payload⟩ := c
    simp only [List.mem_cons, Prod.mk.injEq, List.not_mem_nil, or_false] at row
    rcases row with ⟨rfl, rfl⟩ | ⟨rfl, rfl⟩
    · exact ⟨.inl rfl, decodeCommand_disconnectWord payload⟩
    · exact ⟨.inr rfl, decodeCommand_resetWord payload⟩
  have taken : takeWaiting s.pend (s.waiting ++ [c]) = some (c, s.waiting) :=
    takeWaiting_overtakes (fun d waits => portAccepts_false_of_pending pending (others d waits))
      ((portAccepts_iff_of_pending pending c).2 accepted)
  rw [step_cons arrives]
  simp only [handleEvent, wordArrives, hostTurn, taken]
  exact runCommand_ok decodes _

end Sys2Proof.Machine
end

section
/-! LOADF and DECODE, whole: DECODE's checks as one function of the frame, the outcome they select, and what a command makes of the
same frame again (R170 to R180). -/

namespace Sys2Proof.Machine

/-! ### LOADF -/

/-- LOADF of a payload that fits makes it the whole content of RXBUF (R170). -/
theorem exec_loadf_fits {s : State} {nbytes : BitVec 24} {payload : List Byte} (free : s.pend = .none)
    (legal : nbytes.toNat ≤ Config.rxCap) (size : payload.length = nbytes.toNat) :
    exec (.loadf nbytes payload) s = .next (complete .ok 0 (BitVec.ofNat 32 nbytes.toNat)
      { s with rxBuf := Memory.writeBytes [] 0 payload, rxLen := BitVec.ofNat 17 nbytes.toNat, rxValid := true }) := by
  have written : writeBuffer Config.rxCap [] 0 payload = some (Memory.writeBytes [] 0 payload) :=
    (writeBuffer_eq_some ..).2 ⟨by omega, rfl⟩
  refine (whenFree_free s (fun s => loadFrame nbytes payload s) free).trans ?_
  rw [loadFrame, if_neg (by omega), written, BitVec.ofNat_toNat 32 nbytes]

/-- LOADF of a length above RX_CAP is an illegal command (R103, R170). -/
theorem exec_loadf_over {s : State} {nbytes : BitVec 24} {payload : List Byte} (free : s.pend = .none)
    (excess : Config.rxCap < nbytes.toNat) :
    exec (.loadf nbytes payload) s = .next (raiseFailure .illegalCommand 2 s) := by
  refine (whenFree_free s (fun s => loadFrame nbytes payload s) free).trans ?_
  rw [loadFrame, if_pos excess]

/-- RXLEN holds every legal frame length (R30). -/
theorem rxLen_toNat {n : Nat} (legal : n ≤ Config.rxCap) : (BitVec.ofNat 17 n).toNat = n := by
  have cap : Config.rxCap < 2 ^ 17 := by decide
  rw [BitVec.toNat_ofNat, Nat.mod_eq_of_lt (by omega)]

/-- Settles O27: a legal length fits RXLEN, and RXBUF gives back what was written. -/
theorem loadfPutsThePayloadIntoTheFrameBuffer : Obligations.LoadfPutsThePayloadIntoTheFrameBuffer := by
  intro nbytes payload s free
  refine ⟨exec_loadf_over free, fun legal size => ⟨_, exec_loadf_fits free legal size, rfl, rxLen_toNat legal, ?_⟩⟩
  rw [← size]
  exact Memory.readBytes_writeBytes [] 0 payload

/-! ### The checks of DECODE and its outcomes -/

/-- The first check of DECODE that a frame fails, as kind and sub-code, with the length field as a number (R172, R174, R176). -/
def decodeFailure (f : List Byte) : Option (Kind × BitVec 4) :=
  if f.length < 9 then some (.malformedFrame, 0)
  else if f.length ≠ (byteAt f 4).toNat * 256 + (byteAt f 5).toNat + 6 then some (.structuralMismatch, 0)
  else if f.length - 9 < (byteAt f 8).toNat then some (.structuralMismatch, 1)
  else none

/-- The fields that R175 extracts, at their offsets in the frame. -/
def extractedResponse (f : List Byte) : Response where
  tid := be16 f 0
  pid := be16 f 2
  len := be16 f 4
  unit := byteAt f 6
  fc := byteAt f 7
  bc := byteAt f 8
  data := (f.drop 9).take (byteAt f 8).toNat
  trail := decide ((byteAt f 8).toNat < f.length - 9)

theorem decodeFailure_eq_none {f : List Byte} (long : 9 ≤ f.length)
    (size : f.length = (byteAt f 4).toNat * 256 + (byteAt f 5).toNat + 6) (slice : (byteAt f 8).toNat ≤ f.length - 9) :
    decodeFailure f = none := by
  rw [decodeFailure, if_neg (by omega), if_neg (by omega), if_neg (by omega)]

/-- DECODE's checks and its extraction, told apart (R171). -/
theorem parseFrame_eq (f : List Byte) :
    parseFrame f = match decodeFailure f with
      | some failure => .error failure
      | none => .ok (extractedResponse f) := by
  rcases parseFrame_cases f with ⟨short, parsed⟩ | ⟨long, size, parsed⟩ | ⟨long, size, slice, parsed⟩ | ⟨long, size, slice, parsed⟩
  · rw [parsed, decodeFailure, if_pos short]
  · rw [be16_toNat] at size
    rw [parsed, decodeFailure, if_neg (by omega), if_pos size]
  · rw [be16_toNat] at size
    rw [parsed, decodeFailure, if_neg (by omega), if_neg (not_not.2 size), if_pos slice]
  · rw [be16_toNat] at size
    rw [parsed, decodeFailure_eq_none long size slice]
    rfl

/-- DECODE without a complete frame (R171). -/
theorem exec_decode_noFrame {s : State} (free : s.pend = .none) (invalid : s.rxValid = false) :
    exec .decode s = .next (raiseFailure .precondition 1 s) := by
  refine (whenFree_free s decodeResponseFrame free).trans ?_
  rw [decodeResponseFrame, if_pos invalid]

/-- DECODE of the frame that RXBUF holds (R171). -/
theorem exec_decode_frame {s : State} {f : List Byte} (free : s.pend = .none) (valid : s.rxValid = true)
    (frame : s.rxBuf.readBytes 0 s.rxLen.toNat = some f) : exec .decode s = .next (applyFrame f s) := by
  refine (whenFree_free s decodeResponseFrame free).trans ?_
  rw [decodeResponseFrame, if_neg (by simp [valid]), frame]

theorem applyFrame_failed {f : List Byte} {k : Kind} {sub : BitVec 4} (failed : decodeFailure f = some (k, sub)) (s : State) :
    applyFrame f s = raiseFailure k sub (invalidateResponse s) := by
  simp only [applyFrame, parseFrame_eq, failed]

theorem applyFrame_passed {f : List Byte} (passed : decodeFailure f = none) (s : State) :
    applyFrame f s = complete .ok 0 (BitVec.ofNat 32 (byteAt f 8).toNat) (setResponse (extractedResponse f) s) := by
  simp only [applyFrame, parseFrame_eq, passed, BitVec.ofNat_toNat]
  rfl

/-- While RSPVALID is 0 the host reads no Response register and no byte of RSPDATA (R34, R231). -/
theorem response_unreadable {s : State} (invalid : s.rspValid = false) :
    (∀ number ∈ [7, 8, 9], readStatus s number = none) ∧ ∀ offset, readWindowByte s 2 offset = none := by
  simp [readStatus, readWindowByte, invalid]

/-- Settles O28: a frame that passes every check is DECODE's success, whose data can be read back. -/
theorem decodeExtractsTheResponse : Obligations.DecodeExtractsTheResponse := by
  intro f s free valid frame long size slice
  have run := exec_decode_frame free valid frame
  rw [applyFrame_passed (decodeFailure_eq_none long size slice)] at run
  refine ⟨_, run, be16_toNat f 0, be16_toNat f 2, be16_toNat f 4, rfl, rfl, rfl, ?_, rfl, rfl⟩
  have written := Memory.readBytes_writeBytes [] 0 ((f.drop 9).take (byteAt f 8).toNat)
  rwa [List.length_take_of_le (by rw [List.length_drop]; exact slice)] at written

/-- Settles O29: the statement's chain of checks is DECODE's, and every failure of it is one completion over the Response that is given
up. -/
theorem decodeReportsTheFirstFailingCheck : Obligations.DecodeReportsTheFirstFailingCheck := by
  intro f s free
  refine ⟨exec_decode_noFrame free, fun valid frame k sub failing => ?_⟩
  have failed : decodeFailure f = some (k, sub) := failing.symm
  have run := exec_decode_frame free valid frame
  rw [applyFrame_failed failed] at run
  exact ⟨_, run, rfl, response_unreadable rfl⟩

/-! ### The block's own request as a response (R180) -/

/-- Requests and responses have the same first three fields (R92, R93). -/
theorem be16_requestFrame (tid : Half) (unit fc : Byte) (addr qty : Half) :
    be16 (requestFrame tid unit fc addr qty) 0 = tid ∧ be16 (requestFrame tid unit fc addr qty) 2 = 0 ∧
      be16 (requestFrame tid unit fc addr qty) 4 = 6 :=
  have whole (v : Half) : v.extractLsb' 8 8 ++ v.extractLsb' 0 8 = v := BitVec.extractLsb'_append_extractLsb' (w := 8)
  ⟨whole tid, whole 0x0000#16, whole 0x0006#16⟩

/-- Where a response has its byte_count, a request has the upper byte of its start address (R92, R93). -/
theorem byteAt_requestFrame_bc (tid : Half) (unit fc : Byte) (addr qty : Half) :
    (byteAt (requestFrame tid unit fc addr qty) 8).toNat = addr.toNat / 256 :=
  (List.cons.inj (bytesBe16_toNat addr)).1

/-- A request has three bytes behind that one: as a response it passes for a start address below 4 * 256 (R180). -/
theorem decodeFailure_requestFrame (tid : Half) (unit fc : Byte) (addr qty : Half) :
    decodeFailure (requestFrame tid unit fc addr qty) =
      if addr.toNat ≤ 1023 then none else some (.structuralMismatch, 1) := by
  have size : (requestFrame tid unit fc addr qty).length = 12 := rfl
  have high : (byteAt (requestFrame tid unit fc addr qty) 4).toNat = 0 := rfl
  have low : (byteAt (requestFrame tid unit fc addr qty) 5).toNat = 6 := rfl
  rw [decodeFailure, size, high, low, byteAt_requestFrame_bc, if_neg (by omega), if_neg (by omega)]
  by_cases small : addr.toNat ≤ 1023
  · rw [if_pos small, if_neg (by omega)]
  · rw [if_neg small, if_pos (by omega)]

/-- Settles O30: LOADF makes TXBUF the frame, and byte_count, the start address divided by 256, decides whether it decodes. -/
theorem echoedRequestRoundTrip : Obligations.EchoedRequestRoundTrip := by
  intro s free
  have bc : (byteAt (txbuf s) 8).toNat = s.reqAddr.toNat / 256 := byteAt_requestFrame_bc ..
  obtain ⟨tid, pid, len⟩ : be16 (txbuf s) 0 = s.reqTid ∧ be16 (txbuf s) 2 = 0 ∧ be16 (txbuf s) 4 = 6 := be16_requestFrame ..
  have trailing : (extractedResponse (txbuf s)).trail = decide (s.reqAddr.toNat / 256 < 3) := by rw [← bc]; rfl
  have loaded := exec_loadf_fits (nbytes := 12) (payload := txbuf s) free (by decide) rfl
  refine ⟨_, loaded, _, exec_decode_frame rfl rfl (Memory.readBytes_writeBytes [] 0 (txbuf s)), ?_⟩
  have checks : decodeFailure (txbuf s) = _ := decodeFailure_requestFrame ..
  split
  · next small =>
    rw [if_pos small] at checks
    rw [applyFrame_passed checks, bc]
    exact ⟨rfl, tid, pid, len, rfl, rfl, bc, trailing, rfl⟩
  · next large =>
    rw [if_neg large] at checks
    rw [applyFrame_failed checks]
    exact ⟨rfl, rfl⟩

/-! ### DECODE again -/

/-- A DECODE of a complete frame that leaves a valid Response is a success on the frame in RXBUF. -/
theorem exec_decode_succeeded {s t : State} (free : s.pend = .none) (run : exec .decode s = .next t) (loaded : s.rxValid = true)
    (valid : t.rspValid = true) :
    ∃ f, s.rxBuf.readBytes 0 s.rxLen.toNat = some f ∧ decodeFailure f = none ∧
      t = complete .ok 0 (BitVec.ofNat 32 (byteAt f 8).toNat) (setResponse (extractedResponse f) s) := by
  have body : decodeResponseFrame s = .next t := (whenFree_free s decodeResponseFrame free).symm.trans run
  rcases decodeResponseFrame_next s t body with ⟨missing, -⟩ | ⟨-, f, frame, rfl⟩
  · rw [loaded] at missing
    cases missing
  · cases outcome : decodeFailure f with
    | some failure =>
      rw [applyFrame_failed outcome] at valid
      cases valid
    | none => exact ⟨f, frame, outcome, applyFrame_passed outcome s⟩

/-- Settles O31: the second DECODE finds the same frame, passes the same checks and writes the registers that the first one wrote. -/
theorem decodeCanBeRepeated : Obligations.DecodeCanBeRepeated := by
  intro s t free run valid loaded
  obtain ⟨f, frame, passed, written⟩ := exec_decode_succeeded free run loaded valid
  have again : exec .decode t = .next (applyFrame f t) := by
    subst written
    exact exec_decode_frame rfl loaded frame
  rw [again, applyFrame_passed passed, complete_ok_eq, written]
  rfl

end Sys2Proof.Machine
end

section
/-! VAL words as numbers: what stands in the 64 bits for a raw value that fits the width of its type, and what it denotes
to the host (R192 to R199, R206). -/

namespace Sys2Proof.Machine

/-- The signed reading of a raw value that fits: two's complement (R192, R194, R197). -/
theorem toInt_ofNat_of_lt {w r : Nat} (fits : r < 2 ^ w) :
    (BitVec.ofNat w r).toInt = if 2 * r < 2 ^ w then (r : Int) else r - (2 ^ w : Nat) := by
  rw [BitVec.toInt_eq_toNat_cond, BitVec.toNat_ofNat, Nat.mod_eq_of_lt fits]

/-- For a signed type the VAL word has the signed value of the chunk: sign extension keeps it. -/
theorem valWord_toInt {ty : NumType} (signed : ty ∈ [NumType.int16, .int32, .int64]) (r : Nat) :
    (valWord ty r).toInt = (BitVec.ofNat (8 * typeWidth ty) r).toInt := by
  cases ty with
  | int16 | int32 => exact BitVec.toInt_signExtend_of_le (by decide)
  | int64 => rfl
  | _ => simp at signed

/-- For every type that is not sign-extended the VAL word is the raw value, as far as it fits. -/
theorem valWord_toNat {ty : NumType} (bare : ty ∉ [NumType.int16, .int32]) {r : Nat} (fits : r < 256 ^ typeWidth ty) :
    (valWord ty r).toNat = r := by
  have extended {w : Nat} (low : r < 2 ^ w) (narrow : w ≤ 64) : ((BitVec.ofNat w r).setWidth 64).toNat = r := by
    rw [BitVec.toNat_setWidth_of_le narrow, BitVec.toNat_ofNat, Nat.mod_eq_of_lt low]
  cases ty with
  | int16 | int32 => simp at bare
  | uint16 | uint32 | float32 => exact extended (by simpa [typeWidth] using fits) (by decide)
  | int64 | uint64 | float64 => exact Nat.mod_eq_of_lt (by simpa [typeWidth] using fits)

/-- Settles O34: each range of the statement is the width of its types, whose upper half is negative under the signed one. -/
theorem valWordCarriesTheRawValue : Obligations.ValWordCarriesTheRawValue := by
  refine ⟨fun r fits => ⟨?_, valWord_toNat (by decide) fits⟩,
    fun r fits => ⟨?_, valWord_toNat (by decide) fits, valWord_toNat (by decide) fits⟩,
    fun r fits => ⟨?_, valWord_toNat (by decide) fits, valWord_toNat (by decide) fits⟩⟩
  · exact (valWord_toInt (by decide) r).trans ((toInt_ofNat_of_lt (w := 16) fits).trans (if_congr (by omega) rfl rfl))
  · exact (valWord_toInt (by decide) r).trans ((toInt_ofNat_of_lt (w := 32) fits).trans (if_congr (by omega) rfl rfl))
  · exact (valWord_toInt (by decide) r).trans ((toInt_ofNat_of_lt (w := 64) fits).trans (if_congr (by omega) rfl rfl))

/-- Settles O35: sign extension keeps the signed value, zero extension the unsigned one, and the lower half of a binary32's VAL
word is its pattern. -/
theorem valWordDenotesWhatTheChunkDenotes : Obligations.ValWordDenotesWhatTheChunkDenotes := by
  intro ty chunk size
  have fits : beNat chunk < 256 ^ typeWidth ty := size ▸ beNat_lt chunk
  cases ty with
  | int16 | int32 | int64 => exact congrArg Datum.integer (valWord_toInt (by decide) _)
  | uint16 | uint32 | uint64 => exact congrArg (Datum.integer ∘ Int.ofNat) (valWord_toNat (by decide) fits)
  | float32 =>
    have pattern : ((BitVec.ofNat 32 (beNat chunk)).setWidth 64).setWidth 32 = BitVec.ofNat 32 (beNat chunk) := by
      rw [BitVec.setWidth_setWidth_of_le _ (by decide), BitVec.setWidth_eq]
    exact congrArg (Datum.float ∘ binary32) pattern
  | float64 => rfl

end Sys2Proof.Machine
end

section
/-! VALUES and VALUE, whole: the chunks as sums of their bytes, and the eight forms of each command as one command over the types
(R15, R191, R200, R201). -/

namespace Sys2Proof.Machine

/-! ### The raw value of a chunk -/

/-- beN as the sum of the bytes, the first one weighing most (R15). -/
theorem beNat_eq_sum (bytes : List Byte) :
    beNat bytes =
      ((List.range bytes.length).map fun j => (byteAt bytes j).toNat * 256 ^ (bytes.length - 1 - j)).sum := by
  induction bytes with
  | nil => rfl
  | cons b bs ih =>
    have tail_weight : (fun j => (byteAt (b :: bs) (j + 1)).toNat * 256 ^ (bs.length + 1 - 1 - (j + 1))) =
        fun j => (byteAt bs j).toNat * 256 ^ (bs.length - 1 - j) :=
      funext fun j => congrArg (_ * 256 ^ ·) (by omega)
    rw [List.length_cons, List.range_succ_eq_map, List.map_cons, List.map_map, List.sum_cons]
    calc beNat (b :: bs) = b.toNat * 256 ^ bs.length + beNat bs := by
          rw [← beNat_singleton b, ← beNat_append, List.singleton_append]
      _ = _ := by rw [ih, ← tail_weight]; rfl

/-- The bytes of a chunk are those of the data from the chunk's offset on. -/
theorem byteAt_chunk (data : List Byte) (off : Nat) {w j : Nat} (inside : j < w) :
    byteAt ((data.drop off).take w) j = byteAt data (off + j) := by
  simp only [byteAt, List.getD_eq_getElem?_getD, List.getElem?_take_of_lt inside, List.getElem?_drop]

/-- The raw value of w bytes inside the data (R15, R191). -/
theorem beNat_chunk {data : List Byte} {off w : Nat} (inside : off + w ≤ data.length) :
    beNat ((data.drop off).take w) =
      ((List.range w).map fun j => (byteAt data (off + j)).toNat * 256 ^ (w - 1 - j)).sum := by
  have size : ((data.drop off).take w).length = w := List.length_take_of_le (by rw [List.length_drop]; omega)
  rw [beNat_eq_sum, size]
  refine congrArg List.sum (List.map_congr_left fun j hj => ?_)
  rw [byteAt_chunk data off (List.mem_range.1 hj)]

/-! ### The chunks of some data -/

/-- A chunk lies inside any whole number of chunks above its index. -/
theorem chunk_inside {i n : Nat} (below : i < n) (w : Nat) : i * w + w ≤ n * w :=
  Nat.succ_mul i w ▸ Nat.mul_le_mul_right w below

/-- The whole chunks lie inside the data (R191). -/
theorem chunks_inside (ty : NumType) (bc : Byte) : chunkCount ty bc * typeWidth ty ≤ bc.toNat := Nat.div_mul_le_self ..

/-- A whole chunk does not reach into the bytes behind the last one. -/
theorem chunkOf_take {ty : NumType} {i n : Nat} (below : i < n) (data : List Byte) :
    chunkOf ty (data.take (n * typeWidth ty)) i = chunkOf ty data i := by
  have room := chunk_inside below (typeWidth ty)
  rw [chunkOf, List.drop_take, List.take_take, Nat.min_eq_left (by omega), chunkOf]

theorem valWords_getElem? {ty : NumType} {i n : Nat} (below : i < n) (data : List Byte) :
    (valWords ty data n)[i]? = some (valWord ty (beNat (chunkOf ty data i))) := by
  simp [valWords, below]

/-! ### The eight forms -/

/-- The types in the order of their codes (R95). -/
def numTypes : List NumType := [.int16, .uint16, .int32, .uint32, .float32, .int64, .uint64, .float64]

/-- VALUES for a type (R200). -/
def valuesInstr : NumType → Instr
  | .int16 => .valuesInt16
  | .uint16 => .valuesUint16
  | .int32 => .valuesInt32
  | .uint32 => .valuesUint32
  | .float32 => .valuesFloat32
  | .int64 => .valuesInt64
  | .uint64 => .valuesUint64
  | .float64 => .valuesFloat64

/-- VALUE for a type and an index (R201). -/
def valueInstr (ty : NumType) (index : Half) : Instr :=
  match ty with
  | .int16 => .valueInt16 index
  | .uint16 => .valueUint16 index
  | .int32 => .valueInt32 index
  | .uint32 => .valueUint32 index
  | .float32 => .valueFloat32 index
  | .int64 => .valueInt64 index
  | .uint64 => .valueUint64 index
  | .float64 => .valueFloat64 index

theorem exec_valuesInstr (ty : NumType) {s : State} (free : s.pend = .none) :
    exec (valuesInstr ty) s = deliverValues ty s := by
  have held : exec (valuesInstr ty) s = whenFree s fun s => deliverValues ty s := by cases ty <;> rfl
  exact held.trans (whenFree_free s _ free)

theorem exec_valueInstr (ty : NumType) (index : Half) {s : State} (free : s.pend = .none) :
    exec (valueInstr ty index) s = deliverValue ty index s := by
  have held : exec (valueInstr ty index) s = whenFree s fun s => deliverValue ty index s := by cases ty <;> rfl
  exact held.trans (whenFree_free s _ free)

/-! ### The outcomes of VALUES -/

theorem deliverValues_noResponse (ty : NumType) {s : State} (invalid : s.rspValid = false) :
    deliverValues ty s = .next (raiseFailure .precondition 2 s) := by
  rw [deliverValues, if_pos invalid]

theorem deliverValues_response {ty : NumType} {s : State} {data : List Byte} (valid : s.rspValid = true)
    (held : s.rspData.readBytes 0 (chunkCount ty s.rspBc * typeWidth ty) = some data) :
    deliverValues ty s = .next (complete .ok 0 (BitVec.ofNat 32 (chunkCount ty s.rspBc))
      { s with values := s.values ++ valWords ty data (chunkCount ty s.rspBc) }) := by
  simp only [deliverValues, if_neg (show ¬s.rspValid = false by simp [valid]), held]

/-- Settles O32: the form is VALUES for its type, which reads the whole chunks of the data and delivers the word of each. -/
theorem valuesDeliverEveryWholeChunkInOrder : Obligations.ValuesDeliverEveryWholeChunkInOrder := by
  intro i ty w s d form free
  obtain ⟨_, -, same⟩ := List.exists_of_mem_map (f := fun ty => (valuesInstr ty, ty, typeWidth ty)) (l := numTypes) form
  cases same
  rw [exec_valuesInstr ty free]
  refine ⟨deliverValues_noResponse ty, fun valid data => ?_⟩
  have size : d.length = s.rspBc.toNat := ((Memory.readBytes_eq_some_iff ..).1 data).1
  have whole := Memory.readBytes_part _ _ d data 0 _ ((Nat.zero_add _).trans_le (chunks_inside ty s.rspBc))
  refine ⟨_, deliverValues_response valid whole, valWords_length .., fun k (below : k < chunkCount ty s.rspBc) => ?_⟩
  have inside : k * typeWidth ty + typeWidth ty ≤ d.length :=
    size ▸ (chunk_inside below _).trans (chunks_inside ty s.rspBc)
  rw [valWords_getElem? below, List.drop_zero, chunkOf_take below, chunkOf, beNat_chunk inside]

/-! ### The outcomes of VALUE -/

theorem deliverValue_noResponse (ty : NumType) (index : Half) {s : State} (invalid : s.rspValid = false) :
    deliverValue ty index s = .next (raiseFailure .precondition 2 s) := by
  rw [deliverValue, if_pos invalid]

theorem deliverValue_noChunk {ty : NumType} {index : Half} {s : State} (valid : s.rspValid = true)
    (above : chunkCount ty s.rspBc ≤ index.toNat) :
    deliverValue ty index s = .next (raiseFailure .decodeRange 0 s) := by
  rw [deliverValue, if_neg (by simp [valid]), if_pos above]

theorem deliverValue_chunk {ty : NumType} {index : Half} {s : State} {chunk : List Byte} (valid : s.rspValid = true)
    (below : index.toNat < chunkCount ty s.rspBc)
    (held : s.rspData.readBytes (index.toNat * typeWidth ty) (typeWidth ty) = some chunk) :
    deliverValue ty index s =
      .next (complete .ok 0 1 { s with values := s.values ++ [valWord ty (beNat chunk)] }) := by
  simp only [deliverValue, if_neg (show ¬s.rspValid = false by simp [valid]), if_neg (Nat.not_le.2 below), held]

/-- Settles O33: the form is VALUE for its type, which reads the bytes of the data from index * w on. -/
theorem valueDeliversTheIndexedChunk : Obligations.ValueDeliversTheIndexedChunk := by
  intro index i ty w s d form free
  obtain ⟨_, -, same⟩ := List.exists_of_mem_map (f := fun ty => (valueInstr ty index, ty, typeWidth ty)) (l := numTypes) form
  cases same
  rw [exec_valueInstr ty index free]
  refine ⟨deliverValue_noResponse ty index, deliverValue_noChunk, fun valid below data => ?_⟩
  have size : d.length = s.rspBc.toNat := ((Memory.readBytes_eq_some_iff ..).1 data).1
  have inside : index.toNat * typeWidth ty + typeWidth ty ≤ s.rspBc.toNat :=
    (chunk_inside below _).trans (chunks_inside ty s.rspBc)
  rw [deliverValue_chunk valid below (Memory.readBytes_part _ _ d data _ _ inside), beNat_chunk (size ▸ inside)]

/-- Settles O37: the chunk that VALUE reads is a part of what VALUES has read, and an index past the chunks delivers nothing. -/
theorem valueIsTheElementOfValues : Obligations.ValueIsTheElementOfValues := by
  intro index i j s t vals form free valid run delivered
  obtain ⟨ty, -, same⟩ := List.exists_of_mem_map (f := fun ty => (valuesInstr ty, valueInstr ty index)) (l := numTypes) form
  cases same
  rw [exec_valuesInstr ty free] at run
  rw [exec_valueInstr ty index free]
  rcases deliverValues_next ty s t run with ⟨invalid, -⟩ | ⟨-, data, held, rfl⟩
  · rw [valid] at invalid
    cases invalid
  · have words : valWords ty data (chunkCount ty s.rspBc) = vals := List.append_cancel_left delivered
    subst words
    by_cases below : index.toNat < chunkCount ty s.rspBc
    · have chunk := Memory.readBytes_part _ _ data held _ _ (chunk_inside below (typeWidth ty))
      refine ⟨_, deliverValue_chunk valid below chunk, ?_⟩
      rw [valWords_getElem? below]
      rfl
    · refine ⟨_, deliverValue_noChunk valid (Nat.not_lt.1 below), ?_⟩
      rw [List.getElem?_eq_none (by rw [valWords_length]; exact Nat.not_lt.1 below)]
      exact (List.append_nil _).symm

end Sys2Proof.Machine
end

section
/-! READC and READH, whole: what each of the stages that run at once leaves, and the end of the transaction as a DECODE (R146, R220 to
R222). -/

namespace Sys2Proof.Machine

/-! ### The stages that run at once -/

/-- A READ whose BUILD fails ends there (R222, stage 1). -/
theorem startRead_invalid {s : State} {fc : Byte} {o : BuildOperands} {sub : BitVec 4}
    (failing : buildFailure s.enforceMaxima fc o = some sub) :
    startRead fc o s = raiseFailure .validation sub (invalidateRequest s) := by
  simp only [startRead, failing]

/-- A READ without a session ends with its Request built (R222, stage 2). -/
theorem startRead_unlinked {s : State} {fc : Byte} {o : BuildOperands} (unlinked : s.link = false)
    (valid : buildFailure s.enforceMaxima fc o = none) :
    startRead fc o s = raiseFailure .notConnected 0 (setRequest fc o s) := by
  simp only [startRead, valid, unlinked, if_true]

/-- A receive that has just been armed holds no byte that the host can read (R30, R143, R231). -/
theorem armReceive_unreadable (p : Pend) (s : State) (offset : Nat) : readWindowByte (armReceive p s) 1 offset = none := by
  have empty : ¬offset < (armReceive p s).rxLen.toNat := Nat.not_lt_zero offset
  simp only [readWindowByte, if_neg empty]

/-- Settles O38: each branch of the statement is the state that the last stage reached leaves. -/
theorem readBuildsSendsAndArms : Obligations.ReadBuildsSendsAndArms := by
  intro i fc o s row free
  refine ⟨startRead fc o s, exec_read_free free row, ?_⟩
  split
  · next sub failing =>
    rw [startRead_invalid failing]
    rfl
  · next valid =>
    split
    · next unlinked =>
      rw [startRead_unlinked unlinked valid]
      rfl
    · next linked =>
      rw [startRead_linked (Bool.eq_true_of_not_eq_false linked) valid]
      exact ⟨rfl, armReceive_unreadable _ _⟩

/-! ### The last stage -/

/-- After the last byte of a frame RXBUF and RXLEN are the frame. -/
theorem collecting_holds_frame {f : List Byte} (declared : HasDeclaredLength f) (p : Pend) (s : State) :
    (collecting p f s f.length).rxBuf.readBytes 0 (collecting p f s f.length).rxLen.toNat = some f := by
  rw [collecting_rxLen_toNat declared.bounds.2, collecting_readBytes le_rfl, List.take_length]

/-- The bytes of a frame, to a receive for READ, are DECODE of the state that holds the frame (R146, R222). -/
theorem bytesArrive_frame_read {f : List Byte} {s : State} (declared : HasDeclaredLength f) (queue : s.rxQueue = [])
    (still_open : s.peerClosed = false) :
    bytesArrive f (armReceive .read s) =
      exec .decode { completedFrame (collecting .read f s f.length) with pend := .none } :=
  (bytesArrive_frame declared queue still_open .read).trans (frameComplete_read rfl)

/-- Settles O40: READ arms the deframer, the bytes of the frame are one frame-complete at the last of them, and that is DECODE. -/
theorem readTransactionEndsAsDecodeOfTheReceivedFrame : Obligations.ReadTransactionEndsAsDecodeOfTheReceivedFrame := by
  intro i fc o f s row free linked queue still_open valid _ size
  have declared : HasDeclaredLength f := by rw [HasDeclaredLength, remainingBytes, be16_toNat]; exact size
  have started : exec i s = .next (armReceive .read (transmitRequest (setRequest fc o s))) := by
    rw [exec_read_free free row, startRead_linked linked valid]
  exact ⟨_, _, started, bytesArrive_frame_read declared queue still_open,
    collecting_holds_frame declared .read (transmitRequest (setRequest fc o s)), rfl⟩

end Sys2Proof.Machine
end

section
/-! The register read port: which reads are refused, and what the step on a read does (R38, R39, R231). -/

namespace Sys2Proof.Machine

/-! ### What is unspecified -/

/-- SR0, SR1, SR2, SR5 and SR6 are always defined, SR3 and SR4 hang on REQVALID, SR7 to SR9 on RSPVALID. -/
theorem readStatus_eq_none_iff (s : State) (number : Nat) :
    readStatus s number = none ↔
      10 ≤ number ∨ (number ∈ [3, 4] ∧ s.reqValid = false) ∨ (number ∈ [7, 8, 9] ∧ s.rspValid = false) := by
  match number with
  | 0 | 1 | 2 | 5 | 6 => simp [readStatus]
  | 3 | 4 => simp [readStatus]
  | 7 | 8 | 9 => simp [readStatus]
  | n + 10 => exact iff_of_true rfl (.inl (Nat.le_add_left 10 n))

/-- No window shows a byte behind its end, and windows 0 and 2 none without a Request and a Response. -/
theorem readWindowByte_outside {s : State} {window offset : Nat}
    (outside : 3 ≤ window ∨ (window = 0 ∧ (s.reqValid = false ∨ 12 ≤ offset)) ∨ (window = 1 ∧ s.rxLen.toNat ≤ offset) ∨
      (window = 2 ∧ (s.rspValid = false ∨ s.rspBc.toNat ≤ offset))) :
    readWindowByte s window offset = none := by
  rcases outside with above | ⟨rfl, invalid | behind⟩ | ⟨rfl, behind⟩ | ⟨rfl, invalid | behind⟩
  · match window, above with
    | _ + 3, _ => rfl
  · exact (request_unreadable invalid).2.2 offset
  · have past_end : (txbuf s)[offset]? = none := List.getElem?_eq_none ((requestFrame_length ..).trans_le behind)
    simp only [readWindowByte, past_end, ite_self]
  · exact if_neg (Nat.not_lt.2 behind)
  · exact (response_unreadable invalid).2 offset
  · exact if_neg fun inside => Nat.not_lt.2 behind inside.2

/-! ### The step on a read -/

theorem step_readRegister_some {s : State} {es : List Event} {number : Nat} {v : Word32}
    (moves : s.inbox = .readRegister number :: es) (read : readStatus s number = some v) :
    step s = .next { s with inbox := es, readOut := s.readOut ++ [.register v] } := by
  have kept : readStatus { s with inbox := es } number = some v := read
  rw [step_cons moves]
  simp only [handleEvent, readRegister, kept]

theorem step_readRegister_none {s : State} {es : List Event} {number : Nat}
    (moves : s.inbox = .readRegister number :: es) (read : readStatus s number = none) :
    step s = .refused (.unspecifiedRegister number) := by
  have kept : readStatus { s with inbox := es } number = none := read
  rw [step_cons moves]
  simp only [handleEvent, readRegister, kept]

theorem step_readWindow_some {s : State} {es : List Event} {window offset : Nat} {b : Byte}
    (moves : s.inbox = .readWindow window offset :: es) (read : readWindowByte s window offset = some b) :
    step s = .next { s with inbox := es, readOut := s.readOut ++ [.window b] } := by
  have kept : readWindowByte { s with inbox := es } window offset = some b := read
  rw [step_cons moves]
  simp only [handleEvent, readWindow, kept]

theorem step_readWindow_none {s : State} {es : List Event} {window offset : Nat}
    (moves : s.inbox = .readWindow window offset :: es) (read : readWindowByte s window offset = none) :
    step s = .refused (.unspecifiedWindow window offset) := by
  have kept : readWindowByte { s with inbox := es } window offset = none := read
  rw [step_cons moves]
  simp only [handleEvent, readWindow, kept]

/-- Settles O4: the reads that the statement names are those of an unspecified value, and the step on any other read only appends
what it reads. -/
theorem readPortRefusesUnspecifiedAndHasNoSideEffect : Obligations.ReadPortRefusesUnspecifiedAndHasNoSideEffect := by
  refine fun s es => ⟨fun number moves => ?_, fun window offset moves => ?_⟩
  · split
    · next unspecified => exact step_readRegister_none moves ((readStatus_eq_none_iff s number).2 unspecified)
    · next specified =>
      obtain ⟨v, read⟩ := Option.ne_none_iff_exists'.1 (mt (readStatus_eq_none_iff s number).1 specified)
      exact ⟨v, read, step_readRegister_some moves read⟩
  · split
    · next outside => exact step_readWindow_none moves (readWindowByte_outside outside)
    · exact fun b read => step_readWindow_some moves read

end Sys2Proof.Machine
end

section
/-! The end of a command: ERR as a number, and the bit of ERRLOG by its code (R35, R36, R240, R262). -/

namespace Sys2Proof.Machine

/-- ERR as a number: the sub-code weighs 16 (R35). -/
theorem errWord_eq_ofNat (k : Kind) (sub : BitVec 4) :
    errWord k sub = BitVec.ofNat 8 (sub.toNat * 16 + (kindCode k).toNat) := by
  have concatenated : (errWord k sub).toNat = sub.toNat * 16 + (kindCode k).toNat := by
    rw [errWord, BitVec.toNat_append, ← Nat.shiftLeft_add_eq_or_of_lt (kindCode k).isLt, Nat.shiftLeft_eq]
  rw [← concatenated, BitVec.ofNat_toNat, BitVec.setWidth_eq]

/-- Only a success has code 0 (R240). -/
theorem kindCode_eq_zero_iff (k : Kind) : kindCode k = 0#4 ↔ k = .ok := by cases k <;> decide

theorem stickyBit_of_failure {k : Kind} (failure : k ≠ .ok) : stickyBit k = BitVec.twoPow 12 (kindCode k).toNat := by
  cases k with
  | ok => exact absurd rfl failure
  | _ => rfl

/-- The sticky bit of a kind: the one its code counts, and none for a success (R36). -/
theorem stickyBit_getLsbD (k : Kind) {j : Nat} (inside : j < 12) :
    (stickyBit k).getLsbD j = decide (kindCode k ≠ 0#4 ∧ j = (kindCode k).toNat) := by
  by_cases success : k = .ok
  · simp [success, kindCode]
  · have failing : kindCode k ≠ 0#4 := mt (kindCode_eq_zero_iff k).1 success
    rw [stickyBit_of_failure success, BitVec.getLsbD_twoPow, ← Bool.decide_and, decide_eq_decide]
    exact ⟨fun ⟨_, bit⟩ => ⟨failing, bit.symm⟩, fun ⟨_, bit⟩ => ⟨bit ▸ inside, bit.symm⟩⟩

/-- Settles O1: the code is the kind's own in the table of R240. -/
theorem completeWritesErrErrlogPendAndRecord : Obligations.CompleteWritesErrErrlogPendAndRecord := by
  intro k sub res s
  refine ⟨kindCode k, by cases k <;> simp [kindCode], fun j inside => ?_, ?_⟩
  · rw [complete_errLog, BitVec.getLsbD_or, stickyBit_getLsbD k inside]
  · rw [← errWord_eq_ofNat]
    rfl

end Sys2Proof.Machine
end

section
/-! The result port: every operation appends records, and none of a kind that R173, R241 and R248 exclude (log entry 12). -/

namespace Sys2Proof.Machine

/-! ### Records that may appear -/

/-- A code and a sub-code that R173, R241 and R248 do not exclude from the result port. -/
abbrev Reportable (k : Kind) (sub : BitVec 4) : Prop :=
  k ≠ .connectionFailure ∧ k ≠ .decodeError ∧ ¬(k = .malformedFrame ∧ sub = 1)

/-- Of the kinds that are ever reported, only MALFORMED_FRAME has an excluded sub-code. -/
theorem Reportable.of_kind {k : Kind} (sub : BitVec 4)
    (kind : k ≠ .connectionFailure ∧ k ≠ .decodeError ∧ k ≠ .malformedFrame) : Reportable k sub := by
  obtain ⟨connection, decode, frame⟩ := kind
  exact ⟨connection, decode, fun ⟨malformed, _⟩ => frame malformed⟩

/-- From one state to another the result port grows by such records, or not at all. -/
def Reports (s t : State) : Prop :=
  ∃ new, t.results = s.results ++ new ∧ ∀ r ∈ new, Reportable r.kind r.sub

theorem Reports.of_same {s t : State} (same : t.results = s.results) : Reports s t :=
  ⟨[], by rw [same, List.append_nil], fun _ none => nomatch none⟩

theorem Reports.trans {s t u : State} (h : Reports s t) (h' : Reports t u) : Reports s u := by
  obtain ⟨first, grown, allowed⟩ := h
  obtain ⟨second, grown', allowed'⟩ := h'
  exact ⟨first ++ second, by rw [grown', grown, List.append_assoc], List.forall_mem_append.2 ⟨allowed, allowed'⟩⟩

/-- The end of a command delivers its record (R262). -/
theorem Reports.complete {s t : State} {k : Kind} {sub : BitVec 4} (h : Reports s t) (allowed : Reportable k sub)
    (res : Word32) : Reports s (complete k sub res t) :=
  h.trans ⟨[⟨k, sub, res⟩], rfl, List.forall_mem_singleton.2 allowed⟩

/-- A command that has delivered nothing before its end. -/
theorem Reports.of_complete {s t : State} {k : Kind} {sub : BitVec 4} {res : Word32} (same : t.results = s.results)
    (allowed : Reportable k sub) : Reports s (Machine.complete k sub res t) :=
  (Reports.of_same same).complete allowed res

/-- A held command reports nothing (R160). -/
theorem Reports.of_whenFree {s t : State} {body : State → Result} (h : whenFree s body = .next t)
    (taken : body s = .next t → Reports s t) : Reports s t := by
  rcases whenFree_next s t body h with ⟨-, run⟩ | ⟨-, rfl⟩
  · exact taken run
  · exact .of_same rfl

theorem Reports.of_whenFree_next {s t : State} {f : State → State} (h : whenFree s (fun s => .next (f s)) = .next t)
    (taken : Reports s (f s)) : Reports s t :=
  of_whenFree h fun run => by cases run; exact taken

/-! ### The commands -/

theorem buildRequest_reports (fc : Byte) (o : BuildOperands) (s : State) : Reports s (buildRequest fc o s) := by
  unfold buildRequest
  split
  · next sub _ => exact .of_complete rfl (.of_kind sub (by decide))
  · exact .of_complete rfl (by decide)

theorem startRead_reports (fc : Byte) (o : BuildOperands) (s : State) : Reports s (startRead fc o s) := by
  unfold startRead
  split
  · next sub _ => exact .of_complete rfl (.of_kind sub (by decide))
  · split
    · exact .of_complete rfl (by decide)
    · exact .of_same rfl

/-- R241: a refused connection is a success with result 0, and only ERRLOG counts it. -/
theorem connectSession_reports (s : State) : Reports s (connectSession s) := by
  unfold connectSession
  split
  · exact .of_complete rfl (by decide)
  · split <;> exact .of_complete (connectReq_results s) (by decide)

theorem abandonReceive_reports (s : State) : Reports s (abandonReceive s) := by
  rcases abandonReceive_cases s with he | he <;> rw [he]
  · exact .of_same rfl
  · exact .of_complete rfl (by decide)

theorem closeSession_results (s : State) : (closeSession s).results = s.results := by
  obtain ⟨transport, queue, closed, ended⟩ := closeSession_eq s
  rw [ended]

theorem execDisconnect_reports {s t : State} (h : execDisconnect s = .next t) : Reports s t := by
  cases h
  exact (abandonReceive_reports s).trans (.of_complete (closeSession_results _) (by decide))

theorem sendRequest_reports (s : State) : Reports s (sendRequest s) := by
  unfold sendRequest
  split
  · exact .of_complete rfl (by decide)
  · split <;> exact .of_complete rfl (by decide)

theorem startReceive_reports (s : State) : Reports s (startReceive s) := by
  unfold startReceive
  split
  · exact .of_complete rfl (by decide)
  · exact .of_same rfl

theorem loadFrame_reports {n : BitVec 24} {payload : List Byte} {s t : State} (h : loadFrame n payload s = .next t) :
    Reports s t := by
  rcases loadFrame_next n payload s t h with ⟨-, rfl⟩ | ⟨-, -, rfl⟩ <;>
    exact .of_complete rfl (by decide)

/-- R173, R248: the nine bytes that pass the first check hold two PDU bytes, so MALFORMED_FRAME has sub-code 0 only. -/
theorem parseFrame_error_reportable {f : List Byte} {k : Kind} {sub : BitVec 4} (h : parseFrame f = .error (k, sub)) :
    Reportable k sub := by
  rcases parseFrame_cases f with ⟨-, he⟩ | ⟨-, -, he⟩ | ⟨-, -, -, he⟩ | ⟨-, -, -, he⟩ <;>
    (rw [he] at h; cases h) <;> decide

theorem applyFrame_reports (f : List Byte) (s : State) : Reports s (applyFrame f s) := by
  rcases applyFrame_cases f s with ⟨k, sub, failed, he⟩ | ⟨r, -, he⟩ <;> rw [he]
  · exact .of_complete rfl (parseFrame_error_reportable failed)
  · exact .of_complete rfl (by decide)

theorem decodeResponseFrame_reports {s t : State} (h : decodeResponseFrame s = .next t) : Reports s t := by
  rcases decodeResponseFrame_next s t h with ⟨-, rfl⟩ | ⟨-, f, -, rfl⟩
  · exact .of_complete rfl (by decide)
  · exact applyFrame_reports f s

theorem deliverValues_reports {ty : NumType} {s t : State} (h : deliverValues ty s = .next t) : Reports s t := by
  rcases deliverValues_next ty s t h with ⟨-, rfl⟩ | ⟨-, data, -, rfl⟩ <;>
    exact .of_complete rfl (by decide)

theorem deliverValue_reports {ty : NumType} {index : Half} {s t : State} (h : deliverValue ty index s = .next t) :
    Reports s t := by
  rcases deliverValue_next ty index s t h with ⟨-, rfl⟩ | ⟨-, -, rfl⟩ | ⟨-, -, chunk, -, rfl⟩ <;>
    exact .of_complete rfl (by decide)

theorem transmitFrame_reports (bytes : List Byte) (s : State) : Reports s (transmitFrame bytes s) := by
  unfold transmitFrame
  split <;> exact .of_same rfl

/-! ### The deframer -/

theorem deframe_reports {a : Answer} {s t : State} (h : deframe a s = .next t) : Reports s t := by
  rcases deframe_next a s t h with ⟨b, -, hb⟩ | ⟨-, rfl⟩ | ⟨-, rfl⟩
  · rcases deframeByte_cases hb with rfl | ⟨need, rfl⟩ | rfl | ⟨res, rfl⟩ | ⟨-, f, rfl⟩
    · exact .of_same rfl
    · exact .of_same rfl
    · exact .of_same rfl
    · exact .of_complete rfl (by decide)
    · exact applyFrame_reports f { completedFrame (storedByte b s) with pend := .none }
  · exact .of_complete rfl (.of_kind _ (by decide))
  · exact .of_complete rfl (by decide)

theorem collaboratorTurn_reports {s t : State} (h : collaboratorTurn s = .next t) : Reports s t := by
  rcases collaboratorTurn_next s t h with ⟨-, rfl⟩ | ⟨-, a, rest, -, taken⟩
  · exact .of_same rfl
  · exact deframe_reports (s := { s with rxQueue := rest }) taken

theorem queueAnswer_results (a : Answer) (s : State) : (queueAnswer a s).results = s.results := by
  rcases queueAnswer_cases a s with ⟨-, -, he⟩ | ⟨-, -, he⟩ | ⟨-, he⟩ | ⟨-, he⟩ <;> rw [he]

theorem answerArrives_reports {a : Answer} {s t : State} (h : answerArrives a s = .next t) : Reports s t :=
  (Reports.of_same (queueAnswer_results a s)).trans (collaboratorTurn_reports h)

theorem bytesArrive_reports {bytes : List Byte} {s t : State} (h : bytesArrive bytes s = .next t) : Reports s t :=
  bytesArrive_keeps (Reports s) (fun _ _ _ grown arrived => grown.trans (answerArrives_reports arrived)) bytes s t
    (.of_same rfl) h

/-! ### Instructions and steps -/

theorem exec_reports {i : Instr} {s t : State} (h : exec i s = .next t) : Reports s t := by
  cases i with
  | reset => cases h; exact .of_complete (resetBlock_results s) (by decide)
  | build fc o => exact .of_whenFree_next h (buildRequest_reports fc o s)
  | connect => exact .of_whenFree_next h (connectSession_reports s)
  | disconnect => exact execDisconnect_reports h
  | send => exact .of_whenFree_next h (sendRequest_reports s)
  | recv => exact .of_whenFree_next h (startReceive_reports s)
  | loadf => exact .of_whenFree h loadFrame_reports
  | decode => exact .of_whenFree h decodeResponseFrame_reports
  | valuesInt16 | valuesUint16 | valuesInt32 | valuesUint32 | valuesFloat32 | valuesInt64 | valuesUint64 | valuesFloat64 =>
    exact .of_whenFree h deliverValues_reports
  | valueInt16 | valueUint16 | valueInt32 | valueUint32 | valueFloat32 | valueInt64 | valueUint64 | valueFloat64 =>
    exact .of_whenFree h deliverValue_reports
  | readc o | readh o => exact .of_whenFree_next h (startRead_reports _ o s)
  | frameReqReadCoils | frameReqReadHoldingRegisters => cases h; exact transmitFrame_reports _ s
  | frameRsp => exact bytesArrive_reports h
  | answerNone => cases h; exact .of_same rfl
  | answerByte | answerClosed | answerFault => exact answerArrives_reports h

/-- Settles O57: what has been reported since a state stays so under every instruction, illegal word, turn and reset. -/
theorem resultsOnlyGrowAndUnreachableKindsNeverAppear : Obligations.ResultsOnlyGrowAndUnreachableKindsNeverAppear := by
  intro s t h
  exact step_keeps (Reports s) (ports := fun _ _ _ _ => id) (runs := fun _ _ _ grown run => grown.trans (exec_reports run))
    (illegal := fun _ sub grown => grown.complete (.of_kind sub (by decide)) 0)
    (turns := fun _ _ grown turn => grown.trans (collaboratorTurn_reports turn))
    (resets := fun u grown => grown.trans (.of_same (resetBlock_results u))) (.of_same rfl) h

end Sys2Proof.Machine
end

section
/-! The hard reset input (R280): RESET's reset block, taken as a move of its own and without a completion. -/

namespace Sys2Proof.Machine

/-- A completion with `ok` of a block at its reset values writes what ERR, ERRLOG and PEND hold there already (R230, R262). -/
theorem complete_ok_resetBlock (s : State) :
    complete .ok 0 0 (resetBlock s) =
      { resetBlock s with results := (resetBlock s).results ++ [⟨.ok, 0, 0⟩] } := by
  rw [complete_ok_eq]
  rfl

/-- Settles O7: the step on `rst` leaves the reset block, and RESET adds one record to it. -/
theorem hardResetIsResetWithoutARecord : Obligations.HardResetIsResetWithoutARecord := by
  intro s es moves
  have reset : exec .reset { s with inbox := es } = .next (complete .ok 0 0 (resetBlock { s with inbox := es })) := rfl
  refine ⟨resetBlock { s with inbox := es }, step_cons moves, resetBlock_results _, ?_⟩
  rw [reset, complete_ok_resetBlock]

end Sys2Proof.Machine
end
